-- ==== Sys2Proof/Word.lean ====
section
/-! DEFINITION. The word types of the block and their plainest arithmetic (00_scope.md R9). -/

namespace Sys2Proof

/-- One byte of PIX or CODE; bit 0 is the least significant bit (00_scope.md R9). -/
abbrev Byte := BitVec 8

/-- The number of bytes that hold `n` bits: `(n + 7) div 8` (00_scope.md R9). -/
def ceil8 (n : Nat) : Nat := (n + 7) / 8

/-- The number a bit stands for. -/
def bitNat (b : Bool) : Nat := if b then 1 else 0

end Sys2Proof
end

