-- ==== Sys2Proof/Config.lean ====
section
/-! DEFINITION. What an implementation fixes: the constants of 00_scope.md R6 and R7, the parameters of
00_scope.md R8, and the free values (93_implementation_defined.md U9, U10). -/

namespace Sys2Proof.Config

/-- `MAX_CODE_LEN`: an accumulator longer than this without a match is a FormatError (00_scope.md R6). -/
def maxCodeLen : Nat := 13

/-- `TERM_MAX`: terminating codes cover run lengths 0 to 63 (00_scope.md R6). -/
def termMax : Nat := 63

/-- `QUANTUM`: makeup quanta are multiples of 64 (00_scope.md R6). -/
def quantum : Nat := 64

/-- `MAXQ`: the greatest makeup quantum (00_scope.md R7; 92_eei_decisions.md D6). -/
def maxQ : Nat := 2560

/-- `RUN_RT_MAX`: the greatest run that one makeup code and one terminating code carry (43_encoder.md R97). -/
def runRtMax : Nat := maxQ + termMax

/-- `WHITE_BIT` (00_scope.md R7; 92_eei_decisions.md D2). -/
def whiteBit : Bool := false

/-- `BLACK_BIT` (00_scope.md R7; 92_eei_decisions.md D2). -/
def blackBit : Bool := true

/-- `PAD_BIT` (00_scope.md R7; 92_eei_decisions.md D5). -/
def padBit : Bool := false

/-- The parameters of 00_scope.md R8; `none` is "unbounded". They are no state of the block (10_state.md R10):
they are carried beside the state so that every statement holds for every choice of them, and no step writes
them (assumption log 2). -/
structure Capacity where
  /-- `MAX_ROW_BITS`: the size of PIX in bits. -/
  maxRowBits : Option Nat
  /-- `MAX_CODE_BYTES`: the size of CODE in bytes. -/
  maxCodeBytes : Option Nat
  /-- `LENW`: the width of the length and position registers. -/
  lenw : Option Nat
  deriving DecidableEq, Repr

/-- `n` is within a bound that may be absent. -/
def within (n : Nat) : Option Nat → Bool
  | none => true
  | some m => n ≤ m

/-- The part of a value written to a `LENW`-bit register that the register keeps (45_host_commands.md R122). -/
def Capacity.trunc (c : Capacity) (v : Nat) : Nat :=
  match c.lenw with
  | none => v
  | some k => v % 2 ^ k

/-- `8 * MAX_CODE_BYTES >= 8 + 6 * MAX_ROW_BITS` when `MAX_ROW_BITS > 0` (00_scope.md R8). -/
def Capacity.codeHoldsRow (c : Capacity) : Bool :=
  match c.maxCodeBytes, c.maxRowBits with
  | none, _ => true
  | some _, none => false
  | some m, some w => w == 0 || 8 + 6 * w ≤ 8 * m

/-- `LENW` holds `max(MAX_ROW_BITS, 8 * MAX_CODE_BYTES)` (00_scope.md R8). -/
def Capacity.lenwHolds (c : Capacity) : Bool :=
  match c.lenw, c.maxRowBits, c.maxCodeBytes with
  | none, _, _ => true
  | some k, some w, some m => decide (w < 2 ^ k) && decide (8 * m < 2 ^ k)
  | some _, _, _ => false

/-- The constraints of 00_scope.md R8. -/
def Capacity.legal (c : Capacity) : Bool := c.codeHoldsRow && c.lenwHolds

/-- The parameters State.reset carries. DESIGN CHOICE (assumption log 3): all unbounded, which 00_scope.md R8
allows and with which "the machine is exactly the source's". Statements quantify over every Capacity. -/
def resetCapacity : Capacity := { maxRowBits := none, maxCodeBytes := none, lenw := none }

/-- FREE VALUE: what the byte of PIX at an address holds while it is unspecified (70_reset_and_hazards.md R141;
60_exceptions.md R132). The first argument counts the events that made PIX unspecified, so each gives fresh values. -/
opaque freePixByte : Nat → Nat → Byte

/-- FREE VALUE: what the byte of CODE at an address holds while it is unspecified (70_reset_and_hazards.md R141);
arguments as for `freePixByte`. -/
opaque freeCodeByte : Nat → Nat → Byte

/-- FREE VALUE: a result that no rule states, for an operand outside the range its rule gives (assumption log 11). The
argument counts the free values taken, so each is fresh. -/
opaque freeNumber : Nat → Nat

/-- `n` cut to a bound that may be absent: a value that the register's rule bounds. -/
def upTo (bound : Option Nat) (n : Nat) : Nat :=
  match bound with
  | none => n
  | some m => n % (m + 1)

end Sys2Proof.Config
end

