-- ==== Sys2Proof/Syntax.lean ====
section
/-! DEFINITION. The names of the block and its instructions: one constructor of `Instr` for each row of
spec/opcode_table.json. -/

namespace Sys2Proof

/-- A colour (00_scope.md R9); the colour register holds 0 for White and 1 for Black (10_state.md R11). -/
inductive Color where
  | white
  | black
  deriving DecidableEq, Repr

/-- The two memories a host names (45_host_commands.md R126). -/
inductive MemSel where
  | pix
  | code
  deriving DecidableEq, Repr

/-- The four decoder states (10_state.md R15): EW, WMS, EB, BMS. -/
inductive DecState where
  | expectingWhiteRun
  | whiteRunMakeupSeen
  | expectingBlackRun
  | blackRunMakeupSeen
  deriving DecidableEq, Repr

/-- An entry of the table ROM: the pattern right-aligned in 13 bits and its length in bits (20_memory.md R37). -/
structure Code where
  value : BitVec 13
  len : Nat
  deriving DecidableEq, Repr

/-- The four reserved prefixes of 30_encoding.md R58, named by their bits. -/
inductive ReservedPrefix where
  | zeros8one
  | zeros9one
  | zeros10one
  | zeros12
  deriving DecidableEq, Repr

/-- What a string of the stream stands for: the classes of code of 30_encoding.md R48, and the reserved prefixes of
30_encoding.md R58. -/
inductive CodeRef where
  | term (c : Color) (n : Nat)
  | makeup (c : Color) (q : Nat)
  | eol
  | reserved (p : ReservedPrefix)
  deriving DecidableEq, Repr

/-- The rows of spec/opcode_table.json: the codes of the stream and the reserved prefixes, the two commands, the
host's actions, and the internal operations of the units. -/
inductive Instr where
  -- White terminating codes (30_encoding.md R49)
  | wt0
  | wt1
  | wt2
  | wt3
  | wt4
  | wt5
  | wt6
  | wt7
  | wt8
  | wt9
  | wt10
  | wt11
  | wt12
  | wt13
  | wt14
  | wt15
  | wt16
  | wt17
  | wt18
  | wt19
  | wt20
  | wt21
  | wt22
  | wt23
  | wt24
  | wt25
  | wt26
  | wt27
  | wt28
  | wt29
  | wt30
  | wt31
  | wt32
  | wt33
  | wt34
  | wt35
  | wt36
  | wt37
  | wt38
  | wt39
  | wt40
  | wt41
  | wt42
  | wt43
  | wt44
  | wt45
  | wt46
  | wt47
  | wt48
  | wt49
  | wt50
  | wt51
  | wt52
  | wt53
  | wt54
  | wt55
  | wt56
  | wt57
  | wt58
  | wt59
  | wt60
  | wt61
  | wt62
  | wt63
  -- Black terminating codes (30_encoding.md R50)
  | bt0
  | bt1
  | bt2
  | bt3
  | bt4
  | bt5
  | bt6
  | bt7
  | bt8
  | bt9
  | bt10
  | bt11
  | bt12
  | bt13
  | bt14
  | bt15
  | bt16
  | bt17
  | bt18
  | bt19
  | bt20
  | bt21
  | bt22
  | bt23
  | bt24
  | bt25
  | bt26
  | bt27
  | bt28
  | bt29
  | bt30
  | bt31
  | bt32
  | bt33
  | bt34
  | bt35
  | bt36
  | bt37
  | bt38
  | bt39
  | bt40
  | bt41
  | bt42
  | bt43
  | bt44
  | bt45
  | bt46
  | bt47
  | bt48
  | bt49
  | bt50
  | bt51
  | bt52
  | bt53
  | bt54
  | bt55
  | bt56
  | bt57
  | bt58
  | bt59
  | bt60
  | bt61
  | bt62
  | bt63
  -- White makeup codes (30_encoding.md R51, R53)
  | wm64
  | wm128
  | wm192
  | wm256
  | wm320
  | wm384
  | wm448
  | wm512
  | wm576
  | wm640
  | wm704
  | wm768
  | wm832
  | wm896
  | wm960
  | wm1024
  | wm1088
  | wm1152
  | wm1216
  | wm1280
  | wm1344
  | wm1408
  | wm1472
  | wm1536
  | wm1600
  | wm1664
  | wm1728
  | wm1792
  | wm1856
  | wm1920
  | wm1984
  | wm2048
  | wm2112
  | wm2176
  | wm2240
  | wm2304
  | wm2368
  | wm2432
  | wm2496
  | wm2560
  -- Black makeup codes (30_encoding.md R52, R53)
  | bm64
  | bm128
  | bm192
  | bm256
  | bm320
  | bm384
  | bm448
  | bm512
  | bm576
  | bm640
  | bm704
  | bm768
  | bm832
  | bm896
  | bm960
  | bm1024
  | bm1088
  | bm1152
  | bm1216
  | bm1280
  | bm1344
  | bm1408
  | bm1472
  | bm1536
  | bm1600
  | bm1664
  | bm1728
  | bm1792
  | bm1856
  | bm1920
  | bm1984
  | bm2048
  | bm2112
  | bm2176
  | bm2240
  | bm2304
  | bm2368
  | bm2432
  | bm2496
  | bm2560
  -- end of line (30_encoding.md R54) and the reserved prefixes (30_encoding.md R58)
  | eol
  | reserved000000001
  | reserved0000000001
  | reserved00000000001
  | reserved000000000000
  -- commands and host actions (45_host_commands.md)
  | encodeRow
  | decodeRow
  | rd (reg : Nat)
  | wr (reg value : Nat)
  | wrbuf (mem : MemSel) (addr : Nat) (bytes : List Byte)
  | rdbuf (mem : MemSel) (addr n : Nat)
  | reset
  -- huffman_lut_rom (40_lut_rom.md)
  | lutTerm (c : Color) (n : Nat)
  | lutMakeup (c : Color) (q : Nat)
  | lutMaxqLe (n : Nat)
  | lutIsEol (v : BitVec 14) (l : Nat)
  | lutMatchMakeup (c : Color) (v : BitVec 14) (l : Nat)
  | lutMatchTerm (c : Color) (v : BitVec 14) (l : Nat)
  -- the four bit accessors (41_bit_accessors.md)
  | nrOpen (w : Nat)
  | nrRead1
  | nrRead (k : Nat)
  | nrEof
  | twOpen
  | twWrite (v : BitVec 13) (k : Nat)
  | twFlush
  | twClose
  | trOpen (m : Nat)
  | trRead1
  | trRead (k : Nat)
  | trEof
  | nwOpen
  | nwWriteRun (c : Color) (n : Nat)
  | nwClose
  -- run_length_scanner (42_run_length_scanner.md)
  | scanInit
  | scanPixel (b : Bool)
  | scanEnd (w : Nat)
  -- huffman_encoder_t4_t6 (43_encoder.md)
  | encFlushRun (c : Color) (n : Nat)
  -- huffman_decoder_t4_t6 (44_decoder.md)
  | decInit
  | decBit (b : Bool)
  | decEnd
  deriving DecidableEq, Repr

end Sys2Proof
end

