-- ==== Sys2Proof/Machine/Lut.lean ====
section
/-! DEFINITION. Unit huffman_lut_rom: the Code Table and its six lookups (40_lut_rom.md), with the colours and the
decoder states they are keyed by. The table is a constant, not state (40_lut_rom.md R71). -/

namespace Sys2Proof

/-- `other(c)` (00_scope.md R9). -/
def Color.other : Color → Color
  | .white => .black
  | .black => .white

/-- `bit_of(c)` (00_scope.md R9). -/
def Color.bit : Color → Bool
  | .white => Config.whiteBit
  | .black => Config.blackBit

/-- `color_of(b)` (00_scope.md R9). -/
def colorOf (b : Bool) : Color := if b = Config.blackBit then .black else .white

/-- The colour register's number (10_state.md R11). -/
def Color.toNat : Color → Nat
  | .white => 0
  | .black => 1

/-- The number of a decoder state (10_state.md R15). -/
def DecState.toNat : DecState → Nat
  | .expectingWhiteRun => 0
  | .whiteRunMakeupSeen => 1
  | .expectingBlackRun => 2
  | .blackRunMakeupSeen => 3

/-- The colour of the codes tried (10_state.md R15; 30_encoding.md R59). -/
def DecState.color : DecState → Color
  | .expectingWhiteRun | .whiteRunMakeupSeen => .white
  | .expectingBlackRun | .blackRunMakeupSeen => .black

/-- Makeup codes are tried in EW and EB only (44_decoder.md R102). -/
def DecState.expecting : DecState → Bool
  | .expectingWhiteRun | .expectingBlackRun => true
  | .whiteRunMakeupSeen | .blackRunMakeupSeen => false

/-- The Expecting state of a colour: EW or EB. -/
def DecState.expect : Color → DecState
  | .white => .expectingWhiteRun
  | .black => .expectingBlackRun

/-- The MakeupSeen state of a colour: WMS or BMS. -/
def DecState.makeupSeen : Color → DecState
  | .white => .whiteRunMakeupSeen
  | .black => .blackRunMakeupSeen

/-- White terminating codes for run lengths 0 to 63 (30_encoding.md R49). -/
def whiteTermTable : List Code :=
  [⟨0x35, 8⟩, ⟨0x7, 6⟩, ⟨0x7, 4⟩, ⟨0x8, 4⟩, ⟨0xB, 4⟩, ⟨0xC, 4⟩, ⟨0xE, 4⟩, ⟨0xF, 4⟩] ++
  [⟨0x13, 5⟩, ⟨0x14, 5⟩, ⟨0x7, 5⟩, ⟨0x8, 5⟩, ⟨0x8, 6⟩, ⟨0x3, 6⟩, ⟨0x34, 6⟩, ⟨0x35, 6⟩] ++
  [⟨0x2A, 6⟩, ⟨0x2B, 6⟩, ⟨0x27, 7⟩, ⟨0xC, 7⟩, ⟨0x8, 7⟩, ⟨0x17, 7⟩, ⟨0x3, 7⟩, ⟨0x4, 7⟩] ++
  [⟨0x28, 7⟩, ⟨0x2B, 7⟩, ⟨0x13, 7⟩, ⟨0x24, 7⟩, ⟨0x18, 7⟩, ⟨0x2, 8⟩, ⟨0x3, 8⟩, ⟨0x1A, 8⟩] ++
  [⟨0x1B, 8⟩, ⟨0x12, 8⟩, ⟨0x13, 8⟩, ⟨0x14, 8⟩, ⟨0x15, 8⟩, ⟨0x16, 8⟩, ⟨0x17, 8⟩, ⟨0x28, 8⟩] ++
  [⟨0x29, 8⟩, ⟨0x2A, 8⟩, ⟨0x2B, 8⟩, ⟨0x2C, 8⟩, ⟨0x2D, 8⟩, ⟨0x4, 8⟩, ⟨0x5, 8⟩, ⟨0xA, 8⟩] ++
  [⟨0xB, 8⟩, ⟨0x52, 8⟩, ⟨0x53, 8⟩, ⟨0x54, 8⟩, ⟨0x55, 8⟩, ⟨0x24, 8⟩, ⟨0x25, 8⟩, ⟨0x58, 8⟩] ++
  [⟨0x59, 8⟩, ⟨0x5A, 8⟩, ⟨0x5B, 8⟩, ⟨0x4A, 8⟩, ⟨0x4B, 8⟩, ⟨0x32, 8⟩, ⟨0x33, 8⟩, ⟨0x34, 8⟩]

/-- Black terminating codes for run lengths 0 to 63 (30_encoding.md R50). -/
def blackTermTable : List Code :=
  [⟨0x37, 10⟩, ⟨0x2, 3⟩, ⟨0x3, 2⟩, ⟨0x2, 2⟩, ⟨0x3, 3⟩, ⟨0x3, 4⟩, ⟨0x2, 4⟩, ⟨0x3, 5⟩] ++
  [⟨0x5, 6⟩, ⟨0x4, 6⟩, ⟨0x4, 7⟩, ⟨0x5, 7⟩, ⟨0x7, 7⟩, ⟨0x4, 8⟩, ⟨0x7, 8⟩, ⟨0x18, 9⟩] ++
  [⟨0x17, 10⟩, ⟨0x18, 10⟩, ⟨0x8, 10⟩, ⟨0x67, 11⟩, ⟨0x68, 11⟩, ⟨0x6C, 11⟩, ⟨0x37, 11⟩, ⟨0x28, 11⟩] ++
  [⟨0x17, 11⟩, ⟨0x18, 11⟩, ⟨0xCA, 12⟩, ⟨0xCB, 12⟩, ⟨0xCC, 12⟩, ⟨0xCD, 12⟩, ⟨0x68, 12⟩, ⟨0x69, 12⟩] ++
  [⟨0x6A, 12⟩, ⟨0x6B, 12⟩, ⟨0xD2, 12⟩, ⟨0xD3, 12⟩, ⟨0xD4, 12⟩, ⟨0xD5, 12⟩, ⟨0xD6, 12⟩, ⟨0xD7, 12⟩] ++
  [⟨0x6C, 12⟩, ⟨0x6D, 12⟩, ⟨0xDA, 12⟩, ⟨0xDB, 12⟩, ⟨0x54, 12⟩, ⟨0x55, 12⟩, ⟨0x56, 12⟩, ⟨0x57, 12⟩] ++
  [⟨0x64, 12⟩, ⟨0x65, 12⟩, ⟨0x52, 12⟩, ⟨0x53, 12⟩, ⟨0x24, 12⟩, ⟨0x37, 12⟩, ⟨0x38, 12⟩, ⟨0x27, 12⟩] ++
  [⟨0x28, 12⟩, ⟨0x58, 12⟩, ⟨0x59, 12⟩, ⟨0x2B, 12⟩, ⟨0x2C, 12⟩, ⟨0x5A, 12⟩, ⟨0x66, 12⟩, ⟨0x67, 12⟩]

/-- White makeup codes for quanta 64 to 1728 (30_encoding.md R51). -/
def whiteMakeupShort : List Code :=
  [⟨0x1B, 5⟩, ⟨0x12, 5⟩, ⟨0x17, 6⟩, ⟨0x37, 7⟩, ⟨0x36, 8⟩, ⟨0x37, 8⟩, ⟨0x64, 8⟩, ⟨0x65, 8⟩] ++
  [⟨0x68, 8⟩, ⟨0x67, 8⟩, ⟨0xCC, 9⟩, ⟨0xCD, 9⟩, ⟨0xD2, 9⟩, ⟨0xD3, 9⟩, ⟨0xD4, 9⟩, ⟨0xD5, 9⟩] ++
  [⟨0xD6, 9⟩, ⟨0xD7, 9⟩, ⟨0xD8, 9⟩, ⟨0xD9, 9⟩, ⟨0xDA, 9⟩, ⟨0xDB, 9⟩, ⟨0x98, 9⟩, ⟨0x99, 9⟩] ++
  [⟨0x9A, 9⟩, ⟨0x18, 6⟩, ⟨0x9B, 9⟩]

/-- Black makeup codes for quanta 64 to 1728 (30_encoding.md R52). -/
def blackMakeupShort : List Code :=
  [⟨0xF, 10⟩, ⟨0xC8, 12⟩, ⟨0xC9, 12⟩, ⟨0x5B, 12⟩, ⟨0x33, 12⟩, ⟨0x34, 12⟩, ⟨0x35, 12⟩, ⟨0x6C, 13⟩] ++
  [⟨0x6D, 13⟩, ⟨0x4A, 13⟩, ⟨0x4B, 13⟩, ⟨0x4C, 13⟩, ⟨0x4D, 13⟩, ⟨0x72, 13⟩, ⟨0x73, 13⟩, ⟨0x74, 13⟩] ++
  [⟨0x75, 13⟩, ⟨0x76, 13⟩, ⟨0x77, 13⟩, ⟨0x52, 13⟩, ⟨0x53, 13⟩, ⟨0x54, 13⟩, ⟨0x55, 13⟩, ⟨0x5A, 13⟩] ++
  [⟨0x5B, 13⟩, ⟨0x64, 13⟩, ⟨0x65, 13⟩]

/-- Extended makeup codes for quanta 1792 to 2560, the same for both colours (30_encoding.md R53). -/
def makeupExtended : List Code :=
  [⟨0x8, 11⟩, ⟨0xC, 11⟩, ⟨0xD, 11⟩, ⟨0x12, 12⟩, ⟨0x13, 12⟩, ⟨0x14, 12⟩, ⟨0x15, 12⟩, ⟨0x16, 12⟩] ++
  [⟨0x17, 12⟩, ⟨0x1C, 12⟩, ⟨0x1D, 12⟩, ⟨0x1E, 12⟩, ⟨0x1F, 12⟩]

/-- `EOL = 000000000001` (30_encoding.md R54). -/
def eolCode : Code := ⟨0x001, 12⟩

/-- The bits of a reserved prefix (30_encoding.md R58). -/
def ReservedPrefix.code : ReservedPrefix → Code
  | .zeros8one => ⟨1, 9⟩
  | .zeros9one => ⟨1, 10⟩
  | .zeros10one => ⟨1, 11⟩
  | .zeros12 => ⟨0, 12⟩

/-- The terminating codes of a colour, by run length. -/
def termTable : Color → List Code
  | .white => whiteTermTable
  | .black => blackTermTable

/-- The makeup codes of a colour, by quantum in steps of 64 from 64. -/
def makeupTable : Color → List Code
  | .white => whiteMakeupShort ++ makeupExtended
  | .black => blackMakeupShort ++ makeupExtended

/-- `q` is a member of `Q`, the forty multiples of 64 from 64 to 2560 (40_lut_rom.md R65). -/
def isQuantum (q : Nat) : Bool := q % Config.quantum == 0 && Config.quantum ≤ q && q ≤ Config.maxQ

/-- `TERM(c, n)`; `none` outside the domain `n <= 63` (40_lut_rom.md R64). -/
def lutTerm? (c : Color) (n : Nat) : Option Code := (termTable c)[n]?

/-- `MAKEUP(c, q)`; `none` outside the domain `Q` (40_lut_rom.md R65). -/
def lutMakeup? (c : Color) (q : Nat) : Option Code :=
  if isQuantum q then (makeupTable c)[q / Config.quantum - 1]? else none

/-- `TERM(c, n)` where it is known that `n <= 63`. -/
def termCode (c : Color) (n : Nat) : Code := (lutTerm? c n).getD ⟨0, 0⟩

/-- `MAKEUP(c, q)` where it is known that `q` is in `Q`. -/
def makeupCode (c : Color) (q : Nat) : Code := (lutMakeup? c q).getD ⟨0, 0⟩

/-- `MAXQ_LE(n) = min(2560, 64 * (n div 64))`, for `n >= 64` (40_lut_rom.md R66). -/
def maxqLe (n : Nat) : Nat := min Config.maxQ (Config.quantum * (n / Config.quantum))

/-- An accumulated pair equals a table entry: length and value together (40_lut_rom.md R70). -/
def Code.matchesAcc (k : Code) (v : BitVec 14) (l : Nat) : Bool := k.len == l && k.value.setWidth 14 == v

/-- `IS_EOL(v, l)` (40_lut_rom.md R67). -/
def isEol (v : BitVec 14) (l : Nat) : Bool := eolCode.matchesAcc v l

/-- `MATCH_MAKEUP(c, v, l)` (40_lut_rom.md R68). -/
def matchMakeup (c : Color) (v : BitVec 14) (l : Nat) : Option Nat :=
  ((makeupTable c).findIdx? fun k => k.matchesAcc v l).map fun j => Config.quantum * (j + 1)

/-- `MATCH_TERM(c, v, l)` (40_lut_rom.md R69). -/
def matchTerm (c : Color) (v : BitVec 14) (l : Nat) : Option Nat :=
  (termTable c).findIdx? fun k => k.matchesAcc v l

/-- The reserved prefix the accumulated bits are, if any (30_encoding.md R58). -/
def matchReserved (v : BitVec 14) (l : Nat) : Option ReservedPrefix :=
  [ReservedPrefix.zeros8one, .zeros9one, .zeros10one, .zeros12].find? fun p => p.code.matchesAcc v l

/-- The low `k` bits of `v`, bit `k-1` first: the order a code is written in (41_bit_accessors.md R77). -/
def bitsMsbFirst : Nat → BitVec 13 → List Bool
  | 0, _ => []
  | k + 1, v => v.getLsbD k :: bitsMsbFirst k v

/-- The stream bits of a code, in the order written and read (30_encoding.md R57). -/
def Code.bits (k : Code) : List Bool := bitsMsbFirst k.len k.value

/-- The makeup codes and the terminating code of a run, the loop of 43_encoder.md R94, with a bound on its turns. -/
def runCodesUpTo : Nat → Color → Nat → List Code
  | 0, c, n => [termCode c n]
  | turns + 1, c, n =>
    if n > Config.termMax then makeupCode c (maxqLe n) :: runCodesUpTo turns c (n - maxqLe n)
    else [termCode c n]

/-- `RUN(c, n)`: the codes `ENC.FLUSH_RUN(c, n)` writes (30_encoding.md R62; 43_encoder.md R94). Each turn of the loop
takes at least 64 from `n`, so `n div 64` turns suffice. -/
def runCodes (c : Color) (n : Nat) : List Code := runCodesUpTo (n / Config.quantum) c n

end Sys2Proof
end

