-- ==== Sys2Proof/WellFormed.lean ====
section
/-! DEFINITION. The operand ranges the rules state, as a check on an instruction. -/

namespace Sys2Proof

/-- `1 <= k <= 13`: a bit count of a multi-bit read or write (41_bit_accessors.md R74, R77, R82). -/
def bitCountOk (k : Nat) : Bool := 1 ≤ k && k ≤ Config.maxCodeLen

/-- The operands lie in the ranges the rules state. Operands that depend on the parameters (a row width, an input
length, a memory address) are checked where the instruction runs. -/
def Instr.wellFormed : Instr → Bool
  | .rd reg => reg < 8
  | .wr reg _ => reg < 8
  | .lutTerm _ n => n ≤ Config.termMax
  | .lutMakeup _ q => isQuantum q
  | .lutMaxqLe n => Config.quantum ≤ n
  | .lutIsEol _ l => l ≤ 14
  | .lutMatchMakeup _ _ l => l ≤ 14
  | .lutMatchTerm _ _ l => l ≤ 14
  | .nrRead k => bitCountOk k
  | .twWrite v k => bitCountOk k && v.toNat < 2 ^ k
  | .trRead k => bitCountOk k
  | .nwWriteRun _ n => n ≤ Config.maxQ
  | .wt0 | .wt1 | .wt2 | .wt3 | .wt4 | .wt5 | .wt6 | .wt7 | .wt8 | .wt9 | .wt10 | .wt11 | .wt12 | .wt13 | .wt14
  | .wt15 | .wt16 | .wt17 | .wt18 | .wt19 | .wt20 | .wt21 | .wt22 | .wt23 | .wt24 | .wt25 | .wt26 | .wt27
  | .wt28 | .wt29 | .wt30 | .wt31 | .wt32 | .wt33 | .wt34 | .wt35 | .wt36 | .wt37 | .wt38 | .wt39 | .wt40
  | .wt41 | .wt42 | .wt43 | .wt44 | .wt45 | .wt46 | .wt47 | .wt48 | .wt49 | .wt50 | .wt51 | .wt52 | .wt53
  | .wt54 | .wt55 | .wt56 | .wt57 | .wt58 | .wt59 | .wt60 | .wt61 | .wt62 | .wt63 | .bt0 | .bt1 | .bt2 | .bt3
  | .bt4 | .bt5 | .bt6 | .bt7 | .bt8 | .bt9 | .bt10 | .bt11 | .bt12 | .bt13 | .bt14 | .bt15 | .bt16 | .bt17
  | .bt18 | .bt19 | .bt20 | .bt21 | .bt22 | .bt23 | .bt24 | .bt25 | .bt26 | .bt27 | .bt28 | .bt29 | .bt30
  | .bt31 | .bt32 | .bt33 | .bt34 | .bt35 | .bt36 | .bt37 | .bt38 | .bt39 | .bt40 | .bt41 | .bt42 | .bt43
  | .bt44 | .bt45 | .bt46 | .bt47 | .bt48 | .bt49 | .bt50 | .bt51 | .bt52 | .bt53 | .bt54 | .bt55 | .bt56
  | .bt57 | .bt58 | .bt59 | .bt60 | .bt61 | .bt62 | .bt63 | .wm64 | .wm128 | .wm192 | .wm256 | .wm320 | .wm384
  | .wm448 | .wm512 | .wm576 | .wm640 | .wm704 | .wm768 | .wm832 | .wm896 | .wm960 | .wm1024 | .wm1088
  | .wm1152 | .wm1216 | .wm1280 | .wm1344 | .wm1408 | .wm1472 | .wm1536 | .wm1600 | .wm1664 | .wm1728 | .wm1792
  | .wm1856 | .wm1920 | .wm1984 | .wm2048 | .wm2112 | .wm2176 | .wm2240 | .wm2304 | .wm2368 | .wm2432 | .wm2496
  | .wm2560 | .bm64 | .bm128 | .bm192 | .bm256 | .bm320 | .bm384 | .bm448 | .bm512 | .bm576 | .bm640 | .bm704
  | .bm768 | .bm832 | .bm896 | .bm960 | .bm1024 | .bm1088 | .bm1152 | .bm1216 | .bm1280 | .bm1344 | .bm1408
  | .bm1472 | .bm1536 | .bm1600 | .bm1664 | .bm1728 | .bm1792 | .bm1856 | .bm1920 | .bm1984 | .bm2048 | .bm2112
  | .bm2176 | .bm2240 | .bm2304 | .bm2368 | .bm2432 | .bm2496 | .bm2560 | .eol | .reserved000000001
  | .reserved0000000001 | .reserved00000000001 | .reserved000000000000 | .encodeRow | .decodeRow | .wrbuf _ _ _
  | .rdbuf _ _ _ | .reset | .nrOpen _ | .nrRead1 | .nrEof | .twOpen | .twFlush | .twClose | .trOpen _
  | .trRead1 | .trEof | .nwOpen | .nwClose | .scanInit | .scanPixel _ | .scanEnd _ | .encFlushRun _ _
  | .decInit | .decBit _ | .decEnd => true

end Sys2Proof
end

