-- ==== Sys2Proof/Decode.lean ====
section
/-! DEFINITION. From bits to instructions and back: the codes of the stream (30_encoding.md), the command word
(30_encoding.md R60), and the encoder. -/

namespace Sys2Proof

/-- The instructions of the White terminating codes, by run length. -/
def whiteTermInstrs : List Instr :=
  ([.wt0, .wt1, .wt2, .wt3, .wt4, .wt5, .wt6, .wt7, .wt8, .wt9] : List Instr) ++
  ([.wt10, .wt11, .wt12, .wt13, .wt14, .wt15, .wt16, .wt17, .wt18, .wt19] : List Instr) ++
  ([.wt20, .wt21, .wt22, .wt23, .wt24, .wt25, .wt26, .wt27, .wt28, .wt29] : List Instr) ++
  ([.wt30, .wt31, .wt32, .wt33, .wt34, .wt35, .wt36, .wt37, .wt38, .wt39] : List Instr) ++
  ([.wt40, .wt41, .wt42, .wt43, .wt44, .wt45, .wt46, .wt47, .wt48, .wt49] : List Instr) ++
  ([.wt50, .wt51, .wt52, .wt53, .wt54, .wt55, .wt56, .wt57, .wt58, .wt59] : List Instr) ++
  ([.wt60, .wt61, .wt62, .wt63] : List Instr)

/-- The instructions of the Black terminating codes, by run length. -/
def blackTermInstrs : List Instr :=
  ([.bt0, .bt1, .bt2, .bt3, .bt4, .bt5, .bt6, .bt7, .bt8, .bt9] : List Instr) ++
  ([.bt10, .bt11, .bt12, .bt13, .bt14, .bt15, .bt16, .bt17, .bt18, .bt19] : List Instr) ++
  ([.bt20, .bt21, .bt22, .bt23, .bt24, .bt25, .bt26, .bt27, .bt28, .bt29] : List Instr) ++
  ([.bt30, .bt31, .bt32, .bt33, .bt34, .bt35, .bt36, .bt37, .bt38, .bt39] : List Instr) ++
  ([.bt40, .bt41, .bt42, .bt43, .bt44, .bt45, .bt46, .bt47, .bt48, .bt49] : List Instr) ++
  ([.bt50, .bt51, .bt52, .bt53, .bt54, .bt55, .bt56, .bt57, .bt58, .bt59] : List Instr) ++
  ([.bt60, .bt61, .bt62, .bt63] : List Instr)

/-- The instructions of the White makeup codes, by quantum in steps of 64 from 64. -/
def whiteMakeupInstrs : List Instr :=
  ([.wm64, .wm128, .wm192, .wm256, .wm320, .wm384, .wm448, .wm512, .wm576, .wm640] : List Instr) ++
  ([.wm704, .wm768, .wm832, .wm896, .wm960, .wm1024, .wm1088, .wm1152, .wm1216, .wm1280] : List Instr) ++
  ([.wm1344, .wm1408, .wm1472, .wm1536, .wm1600, .wm1664, .wm1728, .wm1792, .wm1856, .wm1920] : List Instr) ++
  ([.wm1984, .wm2048, .wm2112, .wm2176, .wm2240, .wm2304, .wm2368, .wm2432, .wm2496, .wm2560] : List Instr)

/-- The instructions of the Black makeup codes, by quantum in steps of 64 from 64. -/
def blackMakeupInstrs : List Instr :=
  ([.bm64, .bm128, .bm192, .bm256, .bm320, .bm384, .bm448, .bm512, .bm576, .bm640] : List Instr) ++
  ([.bm704, .bm768, .bm832, .bm896, .bm960, .bm1024, .bm1088, .bm1152, .bm1216, .bm1280] : List Instr) ++
  ([.bm1344, .bm1408, .bm1472, .bm1536, .bm1600, .bm1664, .bm1728, .bm1792, .bm1856, .bm1920] : List Instr) ++
  ([.bm1984, .bm2048, .bm2112, .bm2176, .bm2240, .bm2304, .bm2368, .bm2432, .bm2496, .bm2560] : List Instr)

/-- The instruction a string of the stream stands for. Which of `WM1792` and `BM1792` (and so on to 2560) is meant is
the colour's to say (30_encoding.md R61). -/
def codeInstr : CodeRef → Option Instr
  | .term .white n => whiteTermInstrs[n]?
  | .term .black n => blackTermInstrs[n]?
  | .makeup .white q => if isQuantum q then whiteMakeupInstrs[q / Config.quantum - 1]? else none
  | .makeup .black q => if isQuantum q then blackMakeupInstrs[q / Config.quantum - 1]? else none
  | .eol => some .eol
  | .reserved .zeros8one => some .reserved000000001
  | .reserved .zeros9one => some .reserved0000000001
  | .reserved .zeros10one => some .reserved00000000001
  | .reserved .zeros12 => some .reserved000000000000

/-- What an instruction of the stream stands for; `none` for the instructions that are no string of the stream. -/
def codeRefOf : Instr → Option CodeRef
  | .wt0 => some (.term .white 0)
  | .wt1 => some (.term .white 1)
  | .wt2 => some (.term .white 2)
  | .wt3 => some (.term .white 3)
  | .wt4 => some (.term .white 4)
  | .wt5 => some (.term .white 5)
  | .wt6 => some (.term .white 6)
  | .wt7 => some (.term .white 7)
  | .wt8 => some (.term .white 8)
  | .wt9 => some (.term .white 9)
  | .wt10 => some (.term .white 10)
  | .wt11 => some (.term .white 11)
  | .wt12 => some (.term .white 12)
  | .wt13 => some (.term .white 13)
  | .wt14 => some (.term .white 14)
  | .wt15 => some (.term .white 15)
  | .wt16 => some (.term .white 16)
  | .wt17 => some (.term .white 17)
  | .wt18 => some (.term .white 18)
  | .wt19 => some (.term .white 19)
  | .wt20 => some (.term .white 20)
  | .wt21 => some (.term .white 21)
  | .wt22 => some (.term .white 22)
  | .wt23 => some (.term .white 23)
  | .wt24 => some (.term .white 24)
  | .wt25 => some (.term .white 25)
  | .wt26 => some (.term .white 26)
  | .wt27 => some (.term .white 27)
  | .wt28 => some (.term .white 28)
  | .wt29 => some (.term .white 29)
  | .wt30 => some (.term .white 30)
  | .wt31 => some (.term .white 31)
  | .wt32 => some (.term .white 32)
  | .wt33 => some (.term .white 33)
  | .wt34 => some (.term .white 34)
  | .wt35 => some (.term .white 35)
  | .wt36 => some (.term .white 36)
  | .wt37 => some (.term .white 37)
  | .wt38 => some (.term .white 38)
  | .wt39 => some (.term .white 39)
  | .wt40 => some (.term .white 40)
  | .wt41 => some (.term .white 41)
  | .wt42 => some (.term .white 42)
  | .wt43 => some (.term .white 43)
  | .wt44 => some (.term .white 44)
  | .wt45 => some (.term .white 45)
  | .wt46 => some (.term .white 46)
  | .wt47 => some (.term .white 47)
  | .wt48 => some (.term .white 48)
  | .wt49 => some (.term .white 49)
  | .wt50 => some (.term .white 50)
  | .wt51 => some (.term .white 51)
  | .wt52 => some (.term .white 52)
  | .wt53 => some (.term .white 53)
  | .wt54 => some (.term .white 54)
  | .wt55 => some (.term .white 55)
  | .wt56 => some (.term .white 56)
  | .wt57 => some (.term .white 57)
  | .wt58 => some (.term .white 58)
  | .wt59 => some (.term .white 59)
  | .wt60 => some (.term .white 60)
  | .wt61 => some (.term .white 61)
  | .wt62 => some (.term .white 62)
  | .wt63 => some (.term .white 63)
  | .bt0 => some (.term .black 0)
  | .bt1 => some (.term .black 1)
  | .bt2 => some (.term .black 2)
  | .bt3 => some (.term .black 3)
  | .bt4 => some (.term .black 4)
  | .bt5 => some (.term .black 5)
  | .bt6 => some (.term .black 6)
  | .bt7 => some (.term .black 7)
  | .bt8 => some (.term .black 8)
  | .bt9 => some (.term .black 9)
  | .bt10 => some (.term .black 10)
  | .bt11 => some (.term .black 11)
  | .bt12 => some (.term .black 12)
  | .bt13 => some (.term .black 13)
  | .bt14 => some (.term .black 14)
  | .bt15 => some (.term .black 15)
  | .bt16 => some (.term .black 16)
  | .bt17 => some (.term .black 17)
  | .bt18 => some (.term .black 18)
  | .bt19 => some (.term .black 19)
  | .bt20 => some (.term .black 20)
  | .bt21 => some (.term .black 21)
  | .bt22 => some (.term .black 22)
  | .bt23 => some (.term .black 23)
  | .bt24 => some (.term .black 24)
  | .bt25 => some (.term .black 25)
  | .bt26 => some (.term .black 26)
  | .bt27 => some (.term .black 27)
  | .bt28 => some (.term .black 28)
  | .bt29 => some (.term .black 29)
  | .bt30 => some (.term .black 30)
  | .bt31 => some (.term .black 31)
  | .bt32 => some (.term .black 32)
  | .bt33 => some (.term .black 33)
  | .bt34 => some (.term .black 34)
  | .bt35 => some (.term .black 35)
  | .bt36 => some (.term .black 36)
  | .bt37 => some (.term .black 37)
  | .bt38 => some (.term .black 38)
  | .bt39 => some (.term .black 39)
  | .bt40 => some (.term .black 40)
  | .bt41 => some (.term .black 41)
  | .bt42 => some (.term .black 42)
  | .bt43 => some (.term .black 43)
  | .bt44 => some (.term .black 44)
  | .bt45 => some (.term .black 45)
  | .bt46 => some (.term .black 46)
  | .bt47 => some (.term .black 47)
  | .bt48 => some (.term .black 48)
  | .bt49 => some (.term .black 49)
  | .bt50 => some (.term .black 50)
  | .bt51 => some (.term .black 51)
  | .bt52 => some (.term .black 52)
  | .bt53 => some (.term .black 53)
  | .bt54 => some (.term .black 54)
  | .bt55 => some (.term .black 55)
  | .bt56 => some (.term .black 56)
  | .bt57 => some (.term .black 57)
  | .bt58 => some (.term .black 58)
  | .bt59 => some (.term .black 59)
  | .bt60 => some (.term .black 60)
  | .bt61 => some (.term .black 61)
  | .bt62 => some (.term .black 62)
  | .bt63 => some (.term .black 63)
  | .wm64 => some (.makeup .white 64)
  | .wm128 => some (.makeup .white 128)
  | .wm192 => some (.makeup .white 192)
  | .wm256 => some (.makeup .white 256)
  | .wm320 => some (.makeup .white 320)
  | .wm384 => some (.makeup .white 384)
  | .wm448 => some (.makeup .white 448)
  | .wm512 => some (.makeup .white 512)
  | .wm576 => some (.makeup .white 576)
  | .wm640 => some (.makeup .white 640)
  | .wm704 => some (.makeup .white 704)
  | .wm768 => some (.makeup .white 768)
  | .wm832 => some (.makeup .white 832)
  | .wm896 => some (.makeup .white 896)
  | .wm960 => some (.makeup .white 960)
  | .wm1024 => some (.makeup .white 1024)
  | .wm1088 => some (.makeup .white 1088)
  | .wm1152 => some (.makeup .white 1152)
  | .wm1216 => some (.makeup .white 1216)
  | .wm1280 => some (.makeup .white 1280)
  | .wm1344 => some (.makeup .white 1344)
  | .wm1408 => some (.makeup .white 1408)
  | .wm1472 => some (.makeup .white 1472)
  | .wm1536 => some (.makeup .white 1536)
  | .wm1600 => some (.makeup .white 1600)
  | .wm1664 => some (.makeup .white 1664)
  | .wm1728 => some (.makeup .white 1728)
  | .wm1792 => some (.makeup .white 1792)
  | .wm1856 => some (.makeup .white 1856)
  | .wm1920 => some (.makeup .white 1920)
  | .wm1984 => some (.makeup .white 1984)
  | .wm2048 => some (.makeup .white 2048)
  | .wm2112 => some (.makeup .white 2112)
  | .wm2176 => some (.makeup .white 2176)
  | .wm2240 => some (.makeup .white 2240)
  | .wm2304 => some (.makeup .white 2304)
  | .wm2368 => some (.makeup .white 2368)
  | .wm2432 => some (.makeup .white 2432)
  | .wm2496 => some (.makeup .white 2496)
  | .wm2560 => some (.makeup .white 2560)
  | .bm64 => some (.makeup .black 64)
  | .bm128 => some (.makeup .black 128)
  | .bm192 => some (.makeup .black 192)
  | .bm256 => some (.makeup .black 256)
  | .bm320 => some (.makeup .black 320)
  | .bm384 => some (.makeup .black 384)
  | .bm448 => some (.makeup .black 448)
  | .bm512 => some (.makeup .black 512)
  | .bm576 => some (.makeup .black 576)
  | .bm640 => some (.makeup .black 640)
  | .bm704 => some (.makeup .black 704)
  | .bm768 => some (.makeup .black 768)
  | .bm832 => some (.makeup .black 832)
  | .bm896 => some (.makeup .black 896)
  | .bm960 => some (.makeup .black 960)
  | .bm1024 => some (.makeup .black 1024)
  | .bm1088 => some (.makeup .black 1088)
  | .bm1152 => some (.makeup .black 1152)
  | .bm1216 => some (.makeup .black 1216)
  | .bm1280 => some (.makeup .black 1280)
  | .bm1344 => some (.makeup .black 1344)
  | .bm1408 => some (.makeup .black 1408)
  | .bm1472 => some (.makeup .black 1472)
  | .bm1536 => some (.makeup .black 1536)
  | .bm1600 => some (.makeup .black 1600)
  | .bm1664 => some (.makeup .black 1664)
  | .bm1728 => some (.makeup .black 1728)
  | .bm1792 => some (.makeup .black 1792)
  | .bm1856 => some (.makeup .black 1856)
  | .bm1920 => some (.makeup .black 1920)
  | .bm1984 => some (.makeup .black 1984)
  | .bm2048 => some (.makeup .black 2048)
  | .bm2112 => some (.makeup .black 2112)
  | .bm2176 => some (.makeup .black 2176)
  | .bm2240 => some (.makeup .black 2240)
  | .bm2304 => some (.makeup .black 2304)
  | .bm2368 => some (.makeup .black 2368)
  | .bm2432 => some (.makeup .black 2432)
  | .bm2496 => some (.makeup .black 2496)
  | .bm2560 => some (.makeup .black 2560)
  | .eol => some .eol
  | .reserved000000001 => some (.reserved .zeros8one)
  | .reserved0000000001 => some (.reserved .zeros9one)
  | .reserved00000000001 => some (.reserved .zeros10one)
  | .reserved000000000000 => some (.reserved .zeros12)
  | .encodeRow | .decodeRow | .rd _ | .wr _ _ | .wrbuf _ _ _ | .rdbuf _ _ _ | .reset | .lutTerm _ _
  | .lutMakeup _ _ | .lutMaxqLe _ | .lutIsEol _ _ | .lutMatchMakeup _ _ _ | .lutMatchTerm _ _ _ | .nrOpen _
  | .nrRead1 | .nrRead _ | .nrEof | .twOpen | .twWrite _ _ | .twFlush | .twClose | .trOpen _ | .trRead1
  | .trRead _ | .trEof | .nwOpen | .nwWriteRun _ _ | .nwClose | .scanInit | .scanPixel _ | .scanEnd _
  | .encFlushRun _ _ | .decInit | .decBit _ | .decEnd => none

/-- The code of a string of the stream (30_encoding.md R49 to R54, R58). -/
def CodeRef.code : CodeRef → Code
  | .term c n => termCode c n
  | .makeup c q => makeupCode c q
  | .eol => eolCode
  | .reserved p => p.code

/-- A string is tried, or leads nowhere, in a decoder state: EOL and the reserved prefixes in all four, a terminating
code in the states of its colour, a makeup code in the Expecting state of its colour (30_encoding.md R58, R59). -/
def CodeRef.legalIn (st : DecState) : CodeRef → Bool
  | .term c _ => c == st.color
  | .makeup c _ => c == st.color && st.expecting
  | .eol => true
  | .reserved _ => true

/-- The string that the accumulated bits are exactly, among those of the decoder state, in the order of
44_decoder.md R102; a reserved prefix is named too, so that the row of the table it has is what is run. -/
def stringAt (st : DecState) (v : BitVec 14) (l : Nat) : Option CodeRef :=
  if isEol v l then some .eol
  else match if st.expecting then matchMakeup st.color v l else none with
    | some q => some (.makeup st.color q)
    | none => match matchTerm st.color v l with
      | some n => some (.term st.color n)
      | none => (matchReserved v l).map .reserved

/-- The instruction that the accumulated bits are exactly. -/
def instrAt (st : DecState) (v : BitVec 14) (l : Nat) : Option Instr := (stringAt st v l).bind codeInstr

/-- `((v << 1) | b)[13:0]`: one bit shifted into the accumulator (44_decoder.md R104). -/
def shiftBit (v : BitVec 14) (b : Bool) : BitVec 14 := v <<< 1 ||| (if b then 1 else 0)

/-- What reading the next bits of a stream finds. -/
inductive Decoded where
  /-- An instruction, and the accumulator's length when it was complete. -/
  | instr (i : Instr) (len : Nat)
  /-- More than 13 bits without a match (44_decoder.md R111). -/
  | noCode
  /-- The bits end before a code is complete (44_decoder.md R115). -/
  | inputEnds
  deriving DecidableEq, Repr

/-- Read bits into the accumulator until they are an instruction of the decoder state (30_encoding.md R55,
44_decoder.md R104). -/
def decodeFrom (st : DecState) (v : BitVec 14) (l : Nat) : List Bool → Decoded
  | [] => .inputEnds
  | b :: bs =>
    if l + 1 > Config.maxCodeLen then .noCode
    else match instrAt st (shiftBit v b) (l + 1) with
      | some i => .instr i (l + 1)
      | none => decodeFrom st (shiftBit v b) (l + 1) bs

/-- Read one instruction from an empty accumulator. -/
def decodeBits (st : DecState) (bs : List Bool) : Decoded := decodeFrom st 0 0 bs

/-- The stream bits of a byte, in transmission order (20_memory.md R36). -/
def byteBits (x : Byte) : List Bool :=
  [x.getLsbD 0, x.getLsbD 1, x.getLsbD 2, x.getLsbD 3, x.getLsbD 4, x.getLsbD 5, x.getLsbD 6, x.getLsbD 7]

/-- The byte whose stream bits are those given, any missing ones `PAD_BIT` = 0 (20_memory.md R36, 41_bit_accessors.md R78). -/
def packByte (bs : List Bool) : Byte := BitVec.ofNat 8 (bs.foldr (fun b rest => bitNat b + 2 * rest) 0)

/-- `k` bytes from stream bits. -/
def packBytes : Nat → List Bool → List Byte
  | 0, _ => []
  | k + 1, bs => packByte (bs.take 8) :: packBytes k (bs.drop 8)

/-- Stream bits as bytes of CODE, padded to a byte boundary. -/
def bitsToBytes (bs : List Bool) : List Byte := packBytes (ceil8 bs.length) bs

/-- Why a byte string holds no instruction. -/
inductive DecodeError where
  /-- Fourteen bits match nothing that is tried in the state (44_decoder.md R111). -/
  | noCode
  /-- The bytes end before a code is complete (44_decoder.md R115). -/
  | inputEnds
  deriving DecidableEq, Repr

/-- The first instruction of a byte string, read in a decoder state, and how many bits it takes. -/
def decode (st : DecState) (bytes : List Byte) : Except DecodeError (Instr × Nat) :=
  match decodeBits st (bytes.flatMap byteBits) with
  | .instr i len => .ok (i, len)
  | .noCode => .error .noCode
  | .inputEnds => .error .inputEnds

/-- The command a value written to CMD selects: bit 0, the others ignored (10_state.md R23, 30_encoding.md R60). -/
def decodeCmd (v : Nat) : Instr := if v % 2 = 0 then .encodeRow else .decodeRow

/-- The stream bits of an instruction of the stream (30_encoding.md R57). -/
def encodeBits (i : Instr) : Option (List Bool) := (codeRefOf i).map fun r => r.code.bits

/-- The value written to CMD for a command, the ignored bits 0. -/
def encodeCmd (i : Instr) : Option Byte :=
  if i = .encodeRow then some 0 else if i = .decodeRow then some 1 else none

/-- The bytes of an instruction that has an encoding in bits: a string of the stream from a byte boundary, padded, or
the value written to CMD. The other host actions and the internal operations have none (30_encoding.md R63). -/
def encode (i : Instr) : Option (List Byte) :=
  match encodeBits i with
  | some bs => some (bitsToBytes bs)
  | none => (encodeCmd i).map fun v => [v]

/-- The low `k` bits of a number, bit `k-1` first: how spec/opcode_table.json numbers the bits of a code, whose leftmost
bit is the most significant one (00_scope.md R9). -/
def numberBits : Nat → Nat → List Bool
  | 0, _ => []
  | k + 1, w => w.testBit k :: numberBits k w

/-- A string of `len` bits that reads as exactly one instruction in state EW, or else in EB. -/
def readExactly (len w : Nat) : Option (DecState × Instr) :=
  match decodeBits .expectingWhiteRun (numberBits len w) with
  | .instr i l => if l = len then some (.expectingWhiteRun, i) else readBlack
  | _ => readBlack
where
  /-- The same in state EB. -/
  readBlack : Option (DecState × Instr) :=
    match decodeBits .expectingBlackRun (numberBits len w) with
    | .instr i l => if l = len then some (.expectingBlackRun, i) else none
    | _ => none

/-- The instruction of the stream whose bits are the low bits of `w`: the longest string that leaves only 0 bits above
it (assumption log 13). The answer holds its length, and the state it is read in. -/
def findCode : Nat → Nat → Option (Nat × DecState × Instr)
  | 0, _ => none
  | len + 1, w =>
    if w < 2 ^ (len + 1) then
      match readExactly (len + 1) w with
      | some r => some (len + 1, r)
      | none => findCode len w
    else none

/-- `findCode` on the `nbits` bits of a table word. -/
def findTableCode (nbits w : Nat) : Option (Nat × DecState × Instr) := findCode (min nbits Config.maxCodeLen) w

/-- The instruction read from an instruction whose bits are `w`, numbered as spec/opcode_table.json numbers them: a
string of the stream if one has these bits, else, for one byte, the value written to CMD (assumption log 13). -/
def decodeTableWord (nbits w : Nat) : Option Instr :=
  match findTableCode nbits w with
  | some (_, _, i) => some i
  | none => if nbits = 8 then some (decodeCmd w) else none

end Sys2Proof
end

