-- ==== Sys2Proof/Machine/State.lean ====
section
/-! DEFINITION. The state of one block (10_state.md R10), plain data, and what it is after reset (70_reset_and_hazards.md
R141). -/

namespace Sys2Proof.Machine

/-- Why a step stops the model with a fault. -/
inductive Fault where
  /-- An access to a byte that PIX or CODE does not have (20_memory.md R47, 93_implementation_defined.md U15). Raised by
  WRBUF and RDBUF, and by a bit write of TW past the end of CODE. Safe: the spec refuses the access. -/
  | noSuchAddress
  deriving DecidableEq, Repr

/-- Why a step refuses an instruction. -/
inductive Refusal where
  /-- An arm of `exec` without a meaning. Raised by no arm of this model. Safe. -/
  | notModelled (mnemonic : String)
  /-- RD or WR of a register number above 7 (10_state.md R22, 93_implementation_defined.md U15). Safe. -/
  | noSuchRegister
  /-- A host action while an operation runs (20_memory.md R41, 93_implementation_defined.md U16). Safe. -/
  | operationRunning
  /-- A read at or beyond the reader's limit (41_bit_accessors.md R73, R74, R81, R82; 93_implementation_defined.md U17).
  Safe. -/
  | notEnabled
  /-- A lookup of LUT.TERM, LUT.MAKEUP or LUT.MAXQ_LE outside its domain (93_implementation_defined.md U18). Safe. -/
  | outsideDomain
  /-- TW.CLOSE away from a byte boundary (41_bit_accessors.md R79, 93_implementation_defined.md U19). Safe. -/
  | notFlushed
  deriving DecidableEq, Repr

/-- The two operations (10_state.md R23). -/
inductive Operation where
  | encodeRow
  | decodeRow
  deriving DecidableEq, Repr

/-- A memory: the bytes that have a specified value, by rising address, and how often the whole memory has become
unspecified since power-on. A byte that is not listed is unspecified (70_reset_and_hazards.md R141): reading it gives a
free value (assumption log 4). -/
structure Memory where
  cells : List Host.Cell
  epoch : Nat
  deriving DecidableEq, Repr

/-- What a host can do: the two kinds of register access, the two kinds of buffer access, and the reset event. There is
no other host action (45_host_commands.md R121, R122, R126, R127; 70_reset_and_hazards.md R140). -/
inductive HostAction where
  | rd (reg : Nat)
  | wr (reg value : Nat)
  | wrbuf (mem : MemSel) (addr : Nat) (bytes : List Byte)
  | rdbuf (mem : MemSel) (addr n : Nat)
  | reset
  deriving DecidableEq, Repr

/-- What RD, RDBUF or a unit operation returned (assumption log 7). -/
inductive Ret where
  | nothing
  | number (n : Nat)
  | bit (b : Bool)
  | truth (b : Bool)
  | code (k : Code)
  | match? (n : Option Nat)
  | bytes (bs : List Byte)
  deriving DecidableEq, Repr

/-- The state of one block. The fields up to `code` are the spec's; the last five are the model's own. -/
structure State where
  /-- `cur_color` (10_state.md R11). -/
  curColor : Color
  /-- `run_cnt` (10_state.md R12). -/
  runCnt : Nat
  /-- `nr_pos` (10_state.md R13). -/
  nrPos : Nat
  /-- `nr_lim` (10_state.md R13). -/
  nrLim : Nat
  /-- `tw_pos` (10_state.md R14). -/
  twPos : Nat
  /-- `dec_state` (10_state.md R15). -/
  decState : DecState
  /-- `cur_val` (10_state.md R16). -/
  curVal : BitVec 14
  /-- `cur_len` (10_state.md R17). -/
  curLen : Nat
  /-- `tr_pos` (10_state.md R18). -/
  trPos : Nat
  /-- `tr_lim` (10_state.md R18). -/
  trLim : Nat
  /-- `nw_pos` (10_state.md R19). -/
  nwPos : Nat
  /-- `STATUS`: bit 0 DONE, bit 1 ERR (10_state.md R24). -/
  status : BitVec 2
  /-- `CTRL`: bit 0 STRICT (10_state.md R25). -/
  ctrl : BitVec 1
  /-- `IN_LEN` (10_state.md R26). -/
  inLen : Nat
  /-- `EXP_WIDTH` (10_state.md R27). -/
  expWidth : Nat
  /-- `OUT_LEN` (10_state.md R28). -/
  outLen : Nat
  /-- `ERR_CODE` (10_state.md R29). -/
  errCode : BitVec 2
  /-- `ERR_POS` (10_state.md R30). -/
  errPos : Nat
  /-- PIX (20_memory.md R33). -/
  pix : Memory
  /-- CODE (20_memory.md R34). -/
  code : Memory
  /-- The parameters of 00_scope.md R8; no step writes them (assumption log 2). -/
  cap : Config.Capacity
  /-- The operation that runs, if one does (10_state.md R23; assumption log 8). -/
  busy : Option Operation
  /-- The host's actions still to be issued, first next (20_memory.md R42, 45_host_commands.md R127; assumption log 6). -/
  pending : List HostAction
  /-- What the last action that returns a value returned (assumption log 7). -/
  ret : Ret
  /-- How many free values have been taken (assumption log 11). -/
  freeCount : Nat
  deriving DecidableEq, Repr

/-- A memory of which nothing is specified. -/
def Memory.unspecified (epoch : Nat) : Memory := { cells := [], epoch := epoch }

/-- The state after reset of a block with given parameters (70_reset_and_hazards.md R141). -/
def State.resetWith (cap : Config.Capacity) : State where
  curColor := .white
  runCnt := 0
  nrPos := 0
  nrLim := 0
  twPos := 0
  decState := .expectingWhiteRun
  curVal := 0
  curLen := 0
  trPos := 0
  trLim := 0
  nwPos := 0
  status := 0
  ctrl := 0
  inLen := 0
  expWidth := 0
  outLen := 0
  errCode := 0
  errPos := 0
  pix := .unspecified 0
  code := .unspecified 0
  cap := cap
  busy := none
  pending := []
  ret := .nothing
  freeCount := 0

/-- The block right after reset (70_reset_and_hazards.md R141), with the parameters of assumption log 3. -/
def State.reset : State := State.resetWith Config.resetCapacity

end Sys2Proof.Machine
end

