-- ==== Sys2Proof/Machine/Flags.lean ====
section
/-! DEFINITION. The block's only flags: STATUS.DONE and STATUS.ERR (10_state.md R24), and the STRICT bit of CTRL
(10_state.md R25). -/

namespace Sys2Proof.Machine

/-- `STATUS.DONE`. -/
def State.done (s : State) : Bool := s.status.getLsbD 0

/-- `STATUS.ERR`. -/
def State.err (s : State) : Bool := s.status.getLsbD 1

/-- `CTRL.STRICT`. -/
def State.strict (s : State) : Bool := s.ctrl.getLsbD 0

/-- STATUS with DONE set. -/
def withDone (x : BitVec 2) : BitVec 2 := x ||| 1

/-- STATUS with ERR set. -/
def withErr (x : BitVec 2) : BitVec 2 := x ||| 2

/-- STATUS with ERR cleared. -/
def withoutErr (x : BitVec 2) : BitVec 2 := x &&& 1

end Sys2Proof.Machine
end

