-- ==== Sys2Proof/Machine/Ops.lean ====
section
/-! DEFINITION. The shared operations: memories and bit orders, the four bit accessors, the scanner, the run flush, the
decoder's bit step, exception entry, the normal end of an operation, and reset. -/

namespace Sys2Proof.Machine

-- ## Memories (20_memory.md)

/-- The listed byte at an address. -/
def cellAt : List Host.Cell → Nat → Option Byte
  | [], _ => none
  | (a, x) :: rest, addr => if a = addr then some x else cellAt rest addr

/-- The list with one byte written, addresses kept rising. -/
def putCell : List Host.Cell → Nat → Byte → List Host.Cell
  | [], addr, v => [(addr, v)]
  | (a, x) :: rest, addr, v =>
    if addr < a then (addr, v) :: (a, x) :: rest
    else if addr = a then (addr, v) :: rest
    else (a, x) :: putCell rest addr v

/-- The canonical form: addresses strictly rising. An unlisted byte is unspecified, so no listed byte equals what an
unlisted one holds (assumption log 5). -/
def risingCells : List Host.Cell → Bool
  | [] => true
  | (a, _) :: rest =>
    match rest with
    | [] => true
    | (b, _) :: _ => a < b && risingCells rest

/-- A memory is in canonical form. -/
def Memory.wf (m : Memory) : Bool := risingCells m.cells

/-- A memory with one byte written. -/
def Memory.write (m : Memory) (addr : Nat) (v : Byte) : Memory := { m with cells := putCell m.cells addr v }

/-- A memory all of whose bytes have just become unspecified, with fresh free values (60_exceptions.md R132). -/
def Memory.forget (m : Memory) : Memory := .unspecified (m.epoch + 1)

/-- `PIX.byte[addr]` (00_scope.md R9). -/
def pixByte (s : State) (addr : Nat) : Byte := (cellAt s.pix.cells addr).getD (Config.freePixByte s.pix.epoch addr)

/-- `CODE.byte[addr]` (00_scope.md R9). -/
def codeByte (s : State) (addr : Nat) : Byte := (cellAt s.code.cells addr).getD (Config.freeCodeByte s.code.epoch addr)

/-- `mem.byte[addr]`. -/
def memByte (mem : MemSel) (s : State) (addr : Nat) : Byte :=
  match mem with
  | .pix => pixByte s addr
  | .code => codeByte s addr

/-- `mem.byte[addr] <- v`. -/
def setMemByte (mem : MemSel) (addr : Nat) (v : Byte) (s : State) : State :=
  match mem with
  | .pix => { s with pix := s.pix.write addr v }
  | .code => { s with code := s.code.write addr v }

/-- The number of bytes of a memory, if it is bounded (20_memory.md R45). -/
def memSize (mem : MemSel) (s : State) : Option Nat :=
  match mem with
  | .pix => s.cap.maxRowBits.map ceil8
  | .code => s.cap.maxCodeBytes

/-- The bytes `addr` to `addr + n - 1` exist in a memory (20_memory.md R45, R47). -/
def bytesExist (mem : MemSel) (addr n : Nat) (s : State) : Bool := n == 0 || Config.within (addr + n) (memSize mem s)

/-- A byte with one bit replaced, the other seven unchanged (00_scope.md R9). -/
def byteWithBit (x : Byte) (k : Nat) (b : Bool) : Byte :=
  if b then x ||| (1 : Byte) <<< k else x &&& ~~~((1 : Byte) <<< k)

/-- `PIXBIT(i)`: natural order (20_memory.md R35). -/
def pixBit (s : State) (i : Nat) : Bool := (pixByte s (i / 8)).getLsbD (7 - i % 8)

/-- `CODEBIT(j)`: transmission order (20_memory.md R36). -/
def codeBit (s : State) (j : Nat) : Bool := (codeByte s (j / 8)).getLsbD (j % 8)

/-- `PIXBIT(i) <- b`. -/
def setPixBit (i : Nat) (b : Bool) (s : State) : State :=
  { s with pix := s.pix.write (i / 8) (byteWithBit (pixByte s (i / 8)) (7 - i % 8) b) }

/-- `CODEBIT(j) <- b`. -/
def setCodeBit (j : Nat) (b : Bool) (s : State) : State :=
  { s with code := s.code.write (j / 8) (byteWithBit (codeByte s (j / 8)) (j % 8) b) }

/-- Consecutive bytes written from an address on (45_host_commands.md R126). -/
def writeBytes (mem : MemSel) : Nat → List Byte → State → State
  | _, [], s => s
  | addr, v :: vs, s => writeBytes mem (addr + 1) vs (setMemByte mem addr v s)

/-- `n` consecutive bytes from an address on (45_host_commands.md R126). -/
def readBytes (mem : MemSel) (s : State) : Nat → Nat → List Byte
  | _, 0 => []
  | addr, n + 1 => memByte mem s addr :: readBytes mem s (addr + 1) n

/-- `k` bits of a memory from a bit position on, the first most significant, behind a value already read
(41_bit_accessors.md R74, R82). -/
def gatherBits (bitAt : Nat → Bool) : Nat → Nat → Nat → Nat
  | _, 0, v => v
  | pos, k + 1, v => gatherBits bitAt (pos + 1) k (2 * v + bitNat (bitAt pos))

/-- How many bits bring a position to the next multiple of 8 (41_bit_accessors.md R78, R86). -/
def padCount (p : Nat) : Nat := (8 - p % 8) % 8

-- ## Exceptions and the ends of an operation (60_exceptions.md, 45_host_commands.md)

/-- The exceptions of the block (60_exceptions.md R128). -/
inductive Exc where
  | formatError
  | widthMismatch
  | capacityFault
  deriving DecidableEq, Repr

/-- The number of an exception in ERR_CODE (10_state.md R29). -/
def Exc.code : Exc → BitVec 2
  | .formatError => 1
  | .widthMismatch => 2
  | .capacityFault => 3

/-- The accumulator emptied: `cur_val <- 0; cur_len <- 0` (44_decoder.md R102). -/
def clearAcc (s : State) : State := { s with curVal := 0, curLen := 0 }

/-- The result registers, and the end of the operation, that every exception has in common (60_exceptions.md R132). The
accumulator is emptied too, which 10_state.md R20 allows and R17 asks for (assumption log 9). -/
def reportException (x : Exc) (info : Nat) (s : State) : State :=
  { clearAcc s with
    status := withErr (withDone s.status)
    errCode := x.code
    errPos := info
    busy := none }

/-- `raise x(info)` in an operation: exception entry (60_exceptions.md R132). -/
def raiseException (x : Exc) (op : Operation) (info : Nat) (s : State) : State :=
  match x, op with
  | .widthMismatch, _ => reportException x info s
  | _, .encodeRow => { reportException x info s with outLen := 0 }
  | _, .decodeRow => { reportException x info s with outLen := 0, pix := s.pix.forget }

/-- The normal end of an operation (45_host_commands.md R123). There is no return from an exception: the block is ready
for the next command at once (60_exceptions.md R135). -/
def endNormally (s : State) : State :=
  { s with status := withDone (withoutErr s.status), errCode := 0, errPos := 0, busy := none }

/-- `STATUS.ERR <- 0`, the first thing a command does (45_host_commands.md R123). -/
def clearErr (s : State) : State := { s with status := withoutErr s.status }

/-- The reset event: every register at its reset value and both memories unspecified (70_reset_and_hazards.md R140,
R141). The parameters and the actions still to come are not the block's, and stay (assumption log 14). -/
def resetEvent (s : State) : State :=
  { State.resetWith s.cap with pix := s.pix.forget, code := s.code.forget, pending := s.pending, freeCount := s.freeCount }

-- ## bit_reader_natorder and bit_writer_transmitorder (41_bit_accessors.md R72 to R79)

/-- `NR.OPEN(w)` (R72). -/
def nrOpen (w : Nat) (s : State) : State := { s with nrPos := 0, nrLim := w }

/-- The natural reader `k` pixels further on (R73). -/
def nrAdvance (k : Nat) (s : State) : State := { s with nrPos := s.nrPos + k }

/-- `TW.OPEN()` (R76). -/
def twOpen (s : State) : State := { s with twPos := 0 }

/-- Stream bits written one after the other at `tw_pos` (R77). -/
def twPutBits : List Bool → State → State
  | [], s => s
  | b :: bs, s => twPutBits bs { setCodeBit s.twPos b s with twPos := s.twPos + 1 }

/-- CODE has room for `k` more stream bits. -/
def twRoom (k : Nat) (s : State) : Bool := Config.within (s.twPos + k) (s.cap.maxCodeBytes.map (8 * ·))

/-- Stream bits written, or the fault of an address outside CODE, which an operation cannot raise under the constraint of
00_scope.md R8 (43_encoder.md R99; assumption log 12). -/
def twWriteBits (bs : List Bool) (s : State) : Host.Outcome State Fault Refusal :=
  if twRoom bs.length s then .next (twPutBits bs s) else .fault .noSuchAddress

/-- `TW.FLUSH()` (R78). -/
def twFlush (s : State) : Host.Outcome State Fault Refusal :=
  twWriteBits (List.replicate (padCount s.twPos) Config.padBit) s

-- ## bit_reader_transmitorder and bit_writer_natorder (41_bit_accessors.md R80 to R86)

/-- `TR.OPEN(m)` (R80). -/
def trOpen (m : Nat) (s : State) : State := { s with trPos := 0, trLim := 8 * m }

/-- The transmission reader `k` bits further on (R81). -/
def trAdvance (k : Nat) (s : State) : State := { s with trPos := s.trPos + k }

/-- The next stream bits, at most `k`, as far as the input goes (R81, R83). -/
def streamBits (s : State) : Nat → Nat → List Bool
  | _, 0 => []
  | pos, k + 1 => if pos < s.trLim then codeBit s pos :: streamBits s (pos + 1) k else []

/-- `NW.OPEN()` (R84). -/
def nwOpen (s : State) : State := { s with nwPos := 0 }

/-- A run of `n` pixels fits: `nw_pos + n <= MAX_ROW_BITS` (R85). -/
def nwFits (n : Nat) (s : State) : Bool := Config.within (s.nwPos + n) s.cap.maxRowBits

/-- `n` pixels of colour `c` written one after the other at `nw_pos` (R85). -/
def nwPut (c : Color) : Nat → State → State
  | 0, s => s
  | n + 1, s => nwPut c n { setPixBit s.nwPos c.bit s with nwPos := s.nwPos + 1 }

/-- `k` pixels from position `p` on set to 0, `nw_pos` unchanged (R86). -/
def padPix : Nat → Nat → State → State
  | 0, _, s => s
  | k + 1, p, s => padPix k (p + 1) (setPixBit p false s)

/-- `NW.CLOSE()`, but for the value it returns (R86). -/
def nwClose (s : State) : State := padPix (padCount s.nwPos) s.nwPos s

-- ## The decoder (44_decoder.md)

/-- What a part of DECODE_ROW comes to: it goes on, or an exception has ended the operation (60_exceptions.md R132). -/
inductive DecRun where
  | goes (s : State)
  | ends (s : State)
  deriving DecidableEq, Repr

/-- The state either way. -/
def DecRun.state : DecRun → State
  | .goes s => s
  | .ends s => s

/-- `raise x(info)` inside DECODE_ROW. -/
def decRaise (x : Exc) (info : Nat) (s : State) : DecRun := .ends (raiseException x .decodeRow info s)

/-- `NW.WRITE_RUN(c, n)` (41_bit_accessors.md R85): CapacityFault cause (c) of 60_exceptions.md R131, or the pixels. -/
def nwWriteRun (c : Color) (n : Nat) (s : State) : DecRun :=
  if nwFits n s then .goes (nwPut c n s) else decRaise .capacityFault s.trPos s

/-- The end of a transition: next decoder state, accumulator emptied (44_decoder.md R102). -/
def toDecState (st : DecState) (s : State) : State := { clearAcc s with decState := st }

/-- A run written and the transition that goes with it, unless the run does not fit (44_decoder.md R106 to R109). -/
def emitRun (c : Color) (n : Nat) (st : DecState) (s : State) : DecRun :=
  match nwWriteRun c n s with
  | .goes t => .goes (toDecState st t)
  | .ends t => .ends t

/-- The transition on a makeup code (44_decoder.md R106, R108). -/
def emitMakeup (c : Color) (q : Nat) (s : State) : DecRun := emitRun c q (.makeupSeen c) s

/-- The transition on a terminating code (44_decoder.md R107, R109). -/
def emitTerm (c : Color) (n : Nat) (s : State) : DecRun := emitRun c n (.expect c.other) s

/-- The transition on EOL (44_decoder.md R105). -/
def emitEol (s : State) : DecRun := .goes (toDecState .expectingWhiteRun s)

/-- `DEC.INIT()` (44_decoder.md R103). -/
def decInit (s : State) : State := toDecState .expectingWhiteRun s

/-- Step 1 of `DEC.BIT(b)`: the bit shifted into the accumulator (44_decoder.md R104). -/
def shiftIn (b : Bool) (s : State) : State := { s with curVal := shiftBit s.curVal b, curLen := s.curLen + 1 }

/-- Step 4 of `DEC.BIT`: the codes legal for the current state, makeup codes first (44_decoder.md R104). -/
def matchCodes (s : State) : DecRun :=
  match if s.decState.expecting then matchMakeup s.decState.color s.curVal s.curLen else none with
  | some q => emitMakeup s.decState.color q s
  | none =>
    match matchTerm s.decState.color s.curVal s.curLen with
    | some n => emitTerm s.decState.color n s
    | none => .goes s

/-- Steps 2 to 4 of `DEC.BIT`, after the shift (44_decoder.md R104). -/
def afterShift (s : State) : DecRun :=
  if s.curLen > Config.maxCodeLen then decRaise .formatError s.trPos s
  else if isEol s.curVal s.curLen then emitEol s
  else matchCodes s

/-- `DEC.BIT(b)` (44_decoder.md R104). -/
def decBit (b : Bool) (s : State) : DecRun := afterShift (shiftIn b s)

/-- `DEC.END()` (44_decoder.md R115, R116). -/
def decEnd (s : State) : DecRun :=
  let t := { nwClose s with outLen := s.nwPos }
  if t.strict && t.outLen != t.expWidth then decRaise .widthMismatch t.trPos t else .goes t

/-- Given bits, each read from the stream and given to `DEC.BIT`, until an exception ends the operation. -/
def feedBits : List Bool → State → DecRun
  | [], s => .goes s
  | b :: bs, s =>
    match decBit b (trAdvance 1 s) with
    | .goes t => feedBits bs t
    | .ends t => .ends t

/-- `DEC.BIT(TR.READ1())`, at most `k` times, until a match empties the accumulator, an exception ends the operation or
the input is exhausted: the turns of the loop of 44_decoder.md R117 that belong to one string of the stream. -/
def readOn : Nat → State → DecRun
  | 0, s => .goes s
  | k + 1, s =>
    if s.trPos < s.trLim then
      match decBit (codeBit s s.trPos) (trAdvance 1 s) with
      | .goes t => if t.curLen = 0 then .goes t else readOn k t
      | .ends t => .ends t
    else .goes s

/-- The accumulator is empty: a string of the stream can start here (44_decoder.md R105). -/
def atBoundary (s : State) : Bool := s.curLen == 0 && s.curVal == 0

/-- A code of the stream is consumed. Where it is tried, `direct` is its transition, taken after its last bit has been
read. Elsewhere (a code of the other colour, a makeup code in a MakeupSeen state, a code inside another one) its bits are
simply read against the current table (30_encoding.md R59; assumption log 10). -/
def takeCode (k : Code) (tried : Bool) (direct : State → DecRun) (s : State) : Host.Outcome State Fault Refusal :=
  if s.trLim < s.trPos + k.len then .refused .notEnabled
  else if atBoundary s && tried then .next (direct (trAdvance k.len s)).state
  else .next (feedBits k.bits s).state

/-- The terminating code of a colour and run length (44_decoder.md R107, R109). -/
def takeTerm (c : Color) (n : Nat) (s : State) : Host.Outcome State Fault Refusal :=
  takeCode (termCode c n) (s.decState.color == c) (emitTerm c n) s

/-- The makeup code of a colour and quantum (44_decoder.md R106, R108). -/
def takeMakeup (c : Color) (q : Nat) (s : State) : Host.Outcome State Fault Refusal :=
  takeCode (makeupCode c q) (s.decState == .expect c) (emitMakeup c q) s

/-- The EOL code (44_decoder.md R105). -/
def takeEol (s : State) : Host.Outcome State Fault Refusal := takeCode eolCode true emitEol s

/-- A reserved prefix: its bits are accumulated and, as they can never match, more bits follow until FormatError at 14
bits or the end of the input (30_encoding.md R58; 44_decoder.md R111, R115). -/
def takeReserved (p : ReservedPrefix) (s : State) : Host.Outcome State Fault Refusal :=
  if s.trLim < s.trPos + p.code.len then .refused .notEnabled
  else match feedBits p.code.bits s with
    | .goes t => if t.curLen = 0 then .next t else .next (readOn (Config.maxCodeLen + 1) t).state
    | .ends t => .next t

-- ## The scanner and the run flush (42_run_length_scanner.md, 43_encoder.md)

/-- `SCAN.INIT()` (42_run_length_scanner.md R88). -/
def scanInit (s : State) : State := { s with curColor := .white, runCnt := 0 }

/-- `ENC.FLUSH_RUN(c, n)`: the codes of the run, written one after the other (43_encoder.md R94). -/
def flushRun (c : Color) (n : Nat) (s : State) : Host.Outcome State Fault Refusal :=
  twWriteBits ((runCodes c n).flatMap Code.bits) s

/-- `run_cnt <- run_cnt + 1` (42_run_length_scanner.md R89). -/
def countPixel (s : State) : State := { s with runCnt := s.runCnt + 1 }

/-- `SCAN.PIXEL(b)` (42_run_length_scanner.md R89). -/
def scanPixel (b : Bool) (s : State) : Host.Outcome State Fault Refusal :=
  if colorOf b = s.curColor then .next (countPixel s)
  else match flushRun s.curColor s.runCnt s with
    | .next t => .next (countPixel { t with curColor := colorOf b, runCnt := 0 })
    | .fault r => .fault r
    | .refused r => .refused r

/-- `SCAN.END(w)` (42_run_length_scanner.md R90). -/
def scanEnd (w : Nat) (s : State) : Host.Outcome State Fault Refusal :=
  if w = 0 then .next s else flushRun s.curColor s.runCnt s

-- ## The commands (45_host_commands.md)

/-- The start of ENCODE_ROW, up to its loop (43_encoder.md R98; 45_host_commands.md R124). -/
def startEncode (s : State) : State :=
  if Config.within s.inLen s.cap.maxRowBits then
    { scanInit (twOpen (nrOpen s.inLen (clearErr s))) with busy := some .encodeRow }
  else raiseException .capacityFault .encodeRow 0 (clearErr s)

/-- The start of DECODE_ROW, up to its loop (44_decoder.md R117; 45_host_commands.md R125). -/
def startDecode (s : State) : State :=
  if Config.within s.inLen s.cap.maxCodeBytes then
    { decInit (nwOpen (trOpen s.inLen (clearErr s))) with busy := some .decodeRow }
  else raiseException .capacityFault .decodeRow 0 (clearErr s)

/-- The free value that comes next (assumption log 11). -/
def freeValue (s : State) : Nat := Config.freeNumber s.freeCount

/-- The free value that came next has been taken: the following one is a fresh one (assumption log 11). -/
def tookFree (s : State) : State := { s with freeCount := s.freeCount + 1 }

/-- A value returned to whoever issued the action (assumption log 7). -/
def giveBack (r : Ret) (s : State) : State := { s with ret := r }

end Sys2Proof.Machine
end

