-- ==== Sys2Proof/Machine/Operands.lean ====
section
/-! DEFINITION. Operand forms: the interface registers by number (10_state.md R22), the bytes of a memory by address,
bit counts, and the condition a host action needs. -/

namespace Sys2Proof.Machine

/-- The value `RD reg` returns; `none` for a number that names no register (45_host_commands.md R121). -/
def readReg (reg : Nat) (s : State) : Option Nat :=
  match reg with
  | 0 => some 0
  | 1 => some s.status.toNat
  | 2 => some s.ctrl.toNat
  | 3 => some s.inLen
  | 4 => some s.expWidth
  | 5 => some s.outLen
  | 6 => some s.errCode.toNat
  | 7 => some s.errPos
  | _ => none

/-- A value written to CMD starts an operation: bit 0 selects it (45_host_commands.md R123). -/
def writeCmd (v : Nat) (s : State) : State := if v % 2 = 0 then startEncode s else startDecode s

/-- `WR reg, v`; `none` for a number that names no register (45_host_commands.md R122). -/
def writeReg (reg v : Nat) (s : State) : Option State :=
  match reg with
  | 0 => some (writeCmd v s)
  | 1 => some s
  | 2 => some { s with ctrl := BitVec.ofNat 1 v }
  | 3 => some { s with inLen := s.cap.trunc v }
  | 4 => some { s with expWidth := s.cap.trunc v }
  | 5 => some s
  | 6 => some s
  | 7 => some s
  | _ => none

/-- A host action runs only between operations (20_memory.md R41, 93_implementation_defined.md U16). -/
def whenIdle (s : State) (o : Host.Outcome State Fault Refusal) : Host.Outcome State Fault Refusal :=
  if s.busy = none then o else .refused .operationRunning

end Sys2Proof.Machine
end

