-- ==== Sys2Proof/Machine/Codes.lean ====
section
/-! DEFINITION. The meanings of the strings of the stream: what each code does when the decoder reads it
(44_decoder.md R105 to R109), and the reserved prefixes (44_decoder.md R111). -/

namespace Sys2Proof.Machine

/-- `WT0` = `00110101` (44_decoder.md R107, 30_encoding.md R49). -/
def execWt0 (s : State) : Host.Outcome State Fault Refusal := takeTerm .white 0 s

/-- `WT1` = `000111` (44_decoder.md R107, 30_encoding.md R49). -/
def execWt1 (s : State) : Host.Outcome State Fault Refusal := takeTerm .white 1 s

/-- `WT2` = `0111` (44_decoder.md R107, 30_encoding.md R49). -/
def execWt2 (s : State) : Host.Outcome State Fault Refusal := takeTerm .white 2 s

/-- `WT3` = `1000` (44_decoder.md R107, 30_encoding.md R49). -/
def execWt3 (s : State) : Host.Outcome State Fault Refusal := takeTerm .white 3 s

/-- `WT4` = `1011` (44_decoder.md R107, 30_encoding.md R49). -/
def execWt4 (s : State) : Host.Outcome State Fault Refusal := takeTerm .white 4 s

/-- `WT5` = `1100` (44_decoder.md R107, 30_encoding.md R49). -/
def execWt5 (s : State) : Host.Outcome State Fault Refusal := takeTerm .white 5 s

/-- `WT6` = `1110` (44_decoder.md R107, 30_encoding.md R49). -/
def execWt6 (s : State) : Host.Outcome State Fault Refusal := takeTerm .white 6 s

/-- `WT7` = `1111` (44_decoder.md R107, 30_encoding.md R49). -/
def execWt7 (s : State) : Host.Outcome State Fault Refusal := takeTerm .white 7 s

/-- `WT8` = `10011` (44_decoder.md R107, 30_encoding.md R49). -/
def execWt8 (s : State) : Host.Outcome State Fault Refusal := takeTerm .white 8 s

/-- `WT9` = `10100` (44_decoder.md R107, 30_encoding.md R49). -/
def execWt9 (s : State) : Host.Outcome State Fault Refusal := takeTerm .white 9 s

/-- `WT10` = `00111` (44_decoder.md R107, 30_encoding.md R49). -/
def execWt10 (s : State) : Host.Outcome State Fault Refusal := takeTerm .white 10 s

/-- `WT11` = `01000` (44_decoder.md R107, 30_encoding.md R49). -/
def execWt11 (s : State) : Host.Outcome State Fault Refusal := takeTerm .white 11 s

/-- `WT12` = `001000` (44_decoder.md R107, 30_encoding.md R49). -/
def execWt12 (s : State) : Host.Outcome State Fault Refusal := takeTerm .white 12 s

/-- `WT13` = `000011` (44_decoder.md R107, 30_encoding.md R49). -/
def execWt13 (s : State) : Host.Outcome State Fault Refusal := takeTerm .white 13 s

/-- `WT14` = `110100` (44_decoder.md R107, 30_encoding.md R49). -/
def execWt14 (s : State) : Host.Outcome State Fault Refusal := takeTerm .white 14 s

/-- `WT15` = `110101` (44_decoder.md R107, 30_encoding.md R49). -/
def execWt15 (s : State) : Host.Outcome State Fault Refusal := takeTerm .white 15 s

/-- `WT16` = `101010` (44_decoder.md R107, 30_encoding.md R49). -/
def execWt16 (s : State) : Host.Outcome State Fault Refusal := takeTerm .white 16 s

/-- `WT17` = `101011` (44_decoder.md R107, 30_encoding.md R49). -/
def execWt17 (s : State) : Host.Outcome State Fault Refusal := takeTerm .white 17 s

/-- `WT18` = `0100111` (44_decoder.md R107, 30_encoding.md R49). -/
def execWt18 (s : State) : Host.Outcome State Fault Refusal := takeTerm .white 18 s

/-- `WT19` = `0001100` (44_decoder.md R107, 30_encoding.md R49). -/
def execWt19 (s : State) : Host.Outcome State Fault Refusal := takeTerm .white 19 s

/-- `WT20` = `0001000` (44_decoder.md R107, 30_encoding.md R49). -/
def execWt20 (s : State) : Host.Outcome State Fault Refusal := takeTerm .white 20 s

/-- `WT21` = `0010111` (44_decoder.md R107, 30_encoding.md R49). -/
def execWt21 (s : State) : Host.Outcome State Fault Refusal := takeTerm .white 21 s

/-- `WT22` = `0000011` (44_decoder.md R107, 30_encoding.md R49). -/
def execWt22 (s : State) : Host.Outcome State Fault Refusal := takeTerm .white 22 s

/-- `WT23` = `0000100` (44_decoder.md R107, 30_encoding.md R49). -/
def execWt23 (s : State) : Host.Outcome State Fault Refusal := takeTerm .white 23 s

/-- `WT24` = `0101000` (44_decoder.md R107, 30_encoding.md R49). -/
def execWt24 (s : State) : Host.Outcome State Fault Refusal := takeTerm .white 24 s

/-- `WT25` = `0101011` (44_decoder.md R107, 30_encoding.md R49). -/
def execWt25 (s : State) : Host.Outcome State Fault Refusal := takeTerm .white 25 s

/-- `WT26` = `0010011` (44_decoder.md R107, 30_encoding.md R49). -/
def execWt26 (s : State) : Host.Outcome State Fault Refusal := takeTerm .white 26 s

/-- `WT27` = `0100100` (44_decoder.md R107, 30_encoding.md R49). -/
def execWt27 (s : State) : Host.Outcome State Fault Refusal := takeTerm .white 27 s

/-- `WT28` = `0011000` (44_decoder.md R107, 30_encoding.md R49). -/
def execWt28 (s : State) : Host.Outcome State Fault Refusal := takeTerm .white 28 s

/-- `WT29` = `00000010` (44_decoder.md R107, 30_encoding.md R49). -/
def execWt29 (s : State) : Host.Outcome State Fault Refusal := takeTerm .white 29 s

/-- `WT30` = `00000011` (44_decoder.md R107, 30_encoding.md R49). -/
def execWt30 (s : State) : Host.Outcome State Fault Refusal := takeTerm .white 30 s

/-- `WT31` = `00011010` (44_decoder.md R107, 30_encoding.md R49). -/
def execWt31 (s : State) : Host.Outcome State Fault Refusal := takeTerm .white 31 s

/-- `WT32` = `00011011` (44_decoder.md R107, 30_encoding.md R49). -/
def execWt32 (s : State) : Host.Outcome State Fault Refusal := takeTerm .white 32 s

/-- `WT33` = `00010010` (44_decoder.md R107, 30_encoding.md R49). -/
def execWt33 (s : State) : Host.Outcome State Fault Refusal := takeTerm .white 33 s

/-- `WT34` = `00010011` (44_decoder.md R107, 30_encoding.md R49). -/
def execWt34 (s : State) : Host.Outcome State Fault Refusal := takeTerm .white 34 s

/-- `WT35` = `00010100` (44_decoder.md R107, 30_encoding.md R49). -/
def execWt35 (s : State) : Host.Outcome State Fault Refusal := takeTerm .white 35 s

/-- `WT36` = `00010101` (44_decoder.md R107, 30_encoding.md R49). -/
def execWt36 (s : State) : Host.Outcome State Fault Refusal := takeTerm .white 36 s

/-- `WT37` = `00010110` (44_decoder.md R107, 30_encoding.md R49). -/
def execWt37 (s : State) : Host.Outcome State Fault Refusal := takeTerm .white 37 s

/-- `WT38` = `00010111` (44_decoder.md R107, 30_encoding.md R49). -/
def execWt38 (s : State) : Host.Outcome State Fault Refusal := takeTerm .white 38 s

/-- `WT39` = `00101000` (44_decoder.md R107, 30_encoding.md R49). -/
def execWt39 (s : State) : Host.Outcome State Fault Refusal := takeTerm .white 39 s

/-- `WT40` = `00101001` (44_decoder.md R107, 30_encoding.md R49). -/
def execWt40 (s : State) : Host.Outcome State Fault Refusal := takeTerm .white 40 s

/-- `WT41` = `00101010` (44_decoder.md R107, 30_encoding.md R49). -/
def execWt41 (s : State) : Host.Outcome State Fault Refusal := takeTerm .white 41 s

/-- `WT42` = `00101011` (44_decoder.md R107, 30_encoding.md R49). -/
def execWt42 (s : State) : Host.Outcome State Fault Refusal := takeTerm .white 42 s

/-- `WT43` = `00101100` (44_decoder.md R107, 30_encoding.md R49). -/
def execWt43 (s : State) : Host.Outcome State Fault Refusal := takeTerm .white 43 s

/-- `WT44` = `00101101` (44_decoder.md R107, 30_encoding.md R49). -/
def execWt44 (s : State) : Host.Outcome State Fault Refusal := takeTerm .white 44 s

/-- `WT45` = `00000100` (44_decoder.md R107, 30_encoding.md R49). -/
def execWt45 (s : State) : Host.Outcome State Fault Refusal := takeTerm .white 45 s

/-- `WT46` = `00000101` (44_decoder.md R107, 30_encoding.md R49). -/
def execWt46 (s : State) : Host.Outcome State Fault Refusal := takeTerm .white 46 s

/-- `WT47` = `00001010` (44_decoder.md R107, 30_encoding.md R49). -/
def execWt47 (s : State) : Host.Outcome State Fault Refusal := takeTerm .white 47 s

/-- `WT48` = `00001011` (44_decoder.md R107, 30_encoding.md R49). -/
def execWt48 (s : State) : Host.Outcome State Fault Refusal := takeTerm .white 48 s

/-- `WT49` = `01010010` (44_decoder.md R107, 30_encoding.md R49). -/
def execWt49 (s : State) : Host.Outcome State Fault Refusal := takeTerm .white 49 s

/-- `WT50` = `01010011` (44_decoder.md R107, 30_encoding.md R49). -/
def execWt50 (s : State) : Host.Outcome State Fault Refusal := takeTerm .white 50 s

/-- `WT51` = `01010100` (44_decoder.md R107, 30_encoding.md R49). -/
def execWt51 (s : State) : Host.Outcome State Fault Refusal := takeTerm .white 51 s

/-- `WT52` = `01010101` (44_decoder.md R107, 30_encoding.md R49). -/
def execWt52 (s : State) : Host.Outcome State Fault Refusal := takeTerm .white 52 s

/-- `WT53` = `00100100` (44_decoder.md R107, 30_encoding.md R49). -/
def execWt53 (s : State) : Host.Outcome State Fault Refusal := takeTerm .white 53 s

/-- `WT54` = `00100101` (44_decoder.md R107, 30_encoding.md R49). -/
def execWt54 (s : State) : Host.Outcome State Fault Refusal := takeTerm .white 54 s

/-- `WT55` = `01011000` (44_decoder.md R107, 30_encoding.md R49). -/
def execWt55 (s : State) : Host.Outcome State Fault Refusal := takeTerm .white 55 s

/-- `WT56` = `01011001` (44_decoder.md R107, 30_encoding.md R49). -/
def execWt56 (s : State) : Host.Outcome State Fault Refusal := takeTerm .white 56 s

/-- `WT57` = `01011010` (44_decoder.md R107, 30_encoding.md R49). -/
def execWt57 (s : State) : Host.Outcome State Fault Refusal := takeTerm .white 57 s

/-- `WT58` = `01011011` (44_decoder.md R107, 30_encoding.md R49). -/
def execWt58 (s : State) : Host.Outcome State Fault Refusal := takeTerm .white 58 s

/-- `WT59` = `01001010` (44_decoder.md R107, 30_encoding.md R49). -/
def execWt59 (s : State) : Host.Outcome State Fault Refusal := takeTerm .white 59 s

/-- `WT60` = `01001011` (44_decoder.md R107, 30_encoding.md R49). -/
def execWt60 (s : State) : Host.Outcome State Fault Refusal := takeTerm .white 60 s

/-- `WT61` = `00110010` (44_decoder.md R107, 30_encoding.md R49). -/
def execWt61 (s : State) : Host.Outcome State Fault Refusal := takeTerm .white 61 s

/-- `WT62` = `00110011` (44_decoder.md R107, 30_encoding.md R49). -/
def execWt62 (s : State) : Host.Outcome State Fault Refusal := takeTerm .white 62 s

/-- `WT63` = `00110100` (44_decoder.md R107, 30_encoding.md R49). -/
def execWt63 (s : State) : Host.Outcome State Fault Refusal := takeTerm .white 63 s

/-- `BT0` = `0000110111` (44_decoder.md R109, 30_encoding.md R50). -/
def execBt0 (s : State) : Host.Outcome State Fault Refusal := takeTerm .black 0 s

/-- `BT1` = `010` (44_decoder.md R109, 30_encoding.md R50). -/
def execBt1 (s : State) : Host.Outcome State Fault Refusal := takeTerm .black 1 s

/-- `BT2` = `11` (44_decoder.md R109, 30_encoding.md R50). -/
def execBt2 (s : State) : Host.Outcome State Fault Refusal := takeTerm .black 2 s

/-- `BT3` = `10` (44_decoder.md R109, 30_encoding.md R50). -/
def execBt3 (s : State) : Host.Outcome State Fault Refusal := takeTerm .black 3 s

/-- `BT4` = `011` (44_decoder.md R109, 30_encoding.md R50). -/
def execBt4 (s : State) : Host.Outcome State Fault Refusal := takeTerm .black 4 s

/-- `BT5` = `0011` (44_decoder.md R109, 30_encoding.md R50). -/
def execBt5 (s : State) : Host.Outcome State Fault Refusal := takeTerm .black 5 s

/-- `BT6` = `0010` (44_decoder.md R109, 30_encoding.md R50). -/
def execBt6 (s : State) : Host.Outcome State Fault Refusal := takeTerm .black 6 s

/-- `BT7` = `00011` (44_decoder.md R109, 30_encoding.md R50). -/
def execBt7 (s : State) : Host.Outcome State Fault Refusal := takeTerm .black 7 s

/-- `BT8` = `000101` (44_decoder.md R109, 30_encoding.md R50). -/
def execBt8 (s : State) : Host.Outcome State Fault Refusal := takeTerm .black 8 s

/-- `BT9` = `000100` (44_decoder.md R109, 30_encoding.md R50). -/
def execBt9 (s : State) : Host.Outcome State Fault Refusal := takeTerm .black 9 s

/-- `BT10` = `0000100` (44_decoder.md R109, 30_encoding.md R50). -/
def execBt10 (s : State) : Host.Outcome State Fault Refusal := takeTerm .black 10 s

/-- `BT11` = `0000101` (44_decoder.md R109, 30_encoding.md R50). -/
def execBt11 (s : State) : Host.Outcome State Fault Refusal := takeTerm .black 11 s

/-- `BT12` = `0000111` (44_decoder.md R109, 30_encoding.md R50). -/
def execBt12 (s : State) : Host.Outcome State Fault Refusal := takeTerm .black 12 s

/-- `BT13` = `00000100` (44_decoder.md R109, 30_encoding.md R50). -/
def execBt13 (s : State) : Host.Outcome State Fault Refusal := takeTerm .black 13 s

/-- `BT14` = `00000111` (44_decoder.md R109, 30_encoding.md R50). -/
def execBt14 (s : State) : Host.Outcome State Fault Refusal := takeTerm .black 14 s

/-- `BT15` = `000011000` (44_decoder.md R109, 30_encoding.md R50). -/
def execBt15 (s : State) : Host.Outcome State Fault Refusal := takeTerm .black 15 s

/-- `BT16` = `0000010111` (44_decoder.md R109, 30_encoding.md R50). -/
def execBt16 (s : State) : Host.Outcome State Fault Refusal := takeTerm .black 16 s

/-- `BT17` = `0000011000` (44_decoder.md R109, 30_encoding.md R50). -/
def execBt17 (s : State) : Host.Outcome State Fault Refusal := takeTerm .black 17 s

/-- `BT18` = `0000001000` (44_decoder.md R109, 30_encoding.md R50). -/
def execBt18 (s : State) : Host.Outcome State Fault Refusal := takeTerm .black 18 s

/-- `BT19` = `00001100111` (44_decoder.md R109, 30_encoding.md R50). -/
def execBt19 (s : State) : Host.Outcome State Fault Refusal := takeTerm .black 19 s

/-- `BT20` = `00001101000` (44_decoder.md R109, 30_encoding.md R50). -/
def execBt20 (s : State) : Host.Outcome State Fault Refusal := takeTerm .black 20 s

/-- `BT21` = `00001101100` (44_decoder.md R109, 30_encoding.md R50). -/
def execBt21 (s : State) : Host.Outcome State Fault Refusal := takeTerm .black 21 s

/-- `BT22` = `00000110111` (44_decoder.md R109, 30_encoding.md R50). -/
def execBt22 (s : State) : Host.Outcome State Fault Refusal := takeTerm .black 22 s

/-- `BT23` = `00000101000` (44_decoder.md R109, 30_encoding.md R50). -/
def execBt23 (s : State) : Host.Outcome State Fault Refusal := takeTerm .black 23 s

/-- `BT24` = `00000010111` (44_decoder.md R109, 30_encoding.md R50). -/
def execBt24 (s : State) : Host.Outcome State Fault Refusal := takeTerm .black 24 s

/-- `BT25` = `00000011000` (44_decoder.md R109, 30_encoding.md R50). -/
def execBt25 (s : State) : Host.Outcome State Fault Refusal := takeTerm .black 25 s

/-- `BT26` = `000011001010` (44_decoder.md R109, 30_encoding.md R50). -/
def execBt26 (s : State) : Host.Outcome State Fault Refusal := takeTerm .black 26 s

/-- `BT27` = `000011001011` (44_decoder.md R109, 30_encoding.md R50). -/
def execBt27 (s : State) : Host.Outcome State Fault Refusal := takeTerm .black 27 s

/-- `BT28` = `000011001100` (44_decoder.md R109, 30_encoding.md R50). -/
def execBt28 (s : State) : Host.Outcome State Fault Refusal := takeTerm .black 28 s

/-- `BT29` = `000011001101` (44_decoder.md R109, 30_encoding.md R50). -/
def execBt29 (s : State) : Host.Outcome State Fault Refusal := takeTerm .black 29 s

/-- `BT30` = `000001101000` (44_decoder.md R109, 30_encoding.md R50). -/
def execBt30 (s : State) : Host.Outcome State Fault Refusal := takeTerm .black 30 s

/-- `BT31` = `000001101001` (44_decoder.md R109, 30_encoding.md R50). -/
def execBt31 (s : State) : Host.Outcome State Fault Refusal := takeTerm .black 31 s

/-- `BT32` = `000001101010` (44_decoder.md R109, 30_encoding.md R50). -/
def execBt32 (s : State) : Host.Outcome State Fault Refusal := takeTerm .black 32 s

/-- `BT33` = `000001101011` (44_decoder.md R109, 30_encoding.md R50). -/
def execBt33 (s : State) : Host.Outcome State Fault Refusal := takeTerm .black 33 s

/-- `BT34` = `000011010010` (44_decoder.md R109, 30_encoding.md R50). -/
def execBt34 (s : State) : Host.Outcome State Fault Refusal := takeTerm .black 34 s

/-- `BT35` = `000011010011` (44_decoder.md R109, 30_encoding.md R50). -/
def execBt35 (s : State) : Host.Outcome State Fault Refusal := takeTerm .black 35 s

/-- `BT36` = `000011010100` (44_decoder.md R109, 30_encoding.md R50). -/
def execBt36 (s : State) : Host.Outcome State Fault Refusal := takeTerm .black 36 s

/-- `BT37` = `000011010101` (44_decoder.md R109, 30_encoding.md R50). -/
def execBt37 (s : State) : Host.Outcome State Fault Refusal := takeTerm .black 37 s

/-- `BT38` = `000011010110` (44_decoder.md R109, 30_encoding.md R50). -/
def execBt38 (s : State) : Host.Outcome State Fault Refusal := takeTerm .black 38 s

/-- `BT39` = `000011010111` (44_decoder.md R109, 30_encoding.md R50). -/
def execBt39 (s : State) : Host.Outcome State Fault Refusal := takeTerm .black 39 s

/-- `BT40` = `000001101100` (44_decoder.md R109, 30_encoding.md R50). -/
def execBt40 (s : State) : Host.Outcome State Fault Refusal := takeTerm .black 40 s

/-- `BT41` = `000001101101` (44_decoder.md R109, 30_encoding.md R50). -/
def execBt41 (s : State) : Host.Outcome State Fault Refusal := takeTerm .black 41 s

/-- `BT42` = `000011011010` (44_decoder.md R109, 30_encoding.md R50). -/
def execBt42 (s : State) : Host.Outcome State Fault Refusal := takeTerm .black 42 s

/-- `BT43` = `000011011011` (44_decoder.md R109, 30_encoding.md R50). -/
def execBt43 (s : State) : Host.Outcome State Fault Refusal := takeTerm .black 43 s

/-- `BT44` = `000001010100` (44_decoder.md R109, 30_encoding.md R50). -/
def execBt44 (s : State) : Host.Outcome State Fault Refusal := takeTerm .black 44 s

/-- `BT45` = `000001010101` (44_decoder.md R109, 30_encoding.md R50). -/
def execBt45 (s : State) : Host.Outcome State Fault Refusal := takeTerm .black 45 s

/-- `BT46` = `000001010110` (44_decoder.md R109, 30_encoding.md R50). -/
def execBt46 (s : State) : Host.Outcome State Fault Refusal := takeTerm .black 46 s

/-- `BT47` = `000001010111` (44_decoder.md R109, 30_encoding.md R50). -/
def execBt47 (s : State) : Host.Outcome State Fault Refusal := takeTerm .black 47 s

/-- `BT48` = `000001100100` (44_decoder.md R109, 30_encoding.md R50). -/
def execBt48 (s : State) : Host.Outcome State Fault Refusal := takeTerm .black 48 s

/-- `BT49` = `000001100101` (44_decoder.md R109, 30_encoding.md R50). -/
def execBt49 (s : State) : Host.Outcome State Fault Refusal := takeTerm .black 49 s

/-- `BT50` = `000001010010` (44_decoder.md R109, 30_encoding.md R50). -/
def execBt50 (s : State) : Host.Outcome State Fault Refusal := takeTerm .black 50 s

/-- `BT51` = `000001010011` (44_decoder.md R109, 30_encoding.md R50). -/
def execBt51 (s : State) : Host.Outcome State Fault Refusal := takeTerm .black 51 s

/-- `BT52` = `000000100100` (44_decoder.md R109, 30_encoding.md R50). -/
def execBt52 (s : State) : Host.Outcome State Fault Refusal := takeTerm .black 52 s

/-- `BT53` = `000000110111` (44_decoder.md R109, 30_encoding.md R50). -/
def execBt53 (s : State) : Host.Outcome State Fault Refusal := takeTerm .black 53 s

/-- `BT54` = `000000111000` (44_decoder.md R109, 30_encoding.md R50). -/
def execBt54 (s : State) : Host.Outcome State Fault Refusal := takeTerm .black 54 s

/-- `BT55` = `000000100111` (44_decoder.md R109, 30_encoding.md R50). -/
def execBt55 (s : State) : Host.Outcome State Fault Refusal := takeTerm .black 55 s

/-- `BT56` = `000000101000` (44_decoder.md R109, 30_encoding.md R50). -/
def execBt56 (s : State) : Host.Outcome State Fault Refusal := takeTerm .black 56 s

/-- `BT57` = `000001011000` (44_decoder.md R109, 30_encoding.md R50). -/
def execBt57 (s : State) : Host.Outcome State Fault Refusal := takeTerm .black 57 s

/-- `BT58` = `000001011001` (44_decoder.md R109, 30_encoding.md R50). -/
def execBt58 (s : State) : Host.Outcome State Fault Refusal := takeTerm .black 58 s

/-- `BT59` = `000000101011` (44_decoder.md R109, 30_encoding.md R50). -/
def execBt59 (s : State) : Host.Outcome State Fault Refusal := takeTerm .black 59 s

/-- `BT60` = `000000101100` (44_decoder.md R109, 30_encoding.md R50). -/
def execBt60 (s : State) : Host.Outcome State Fault Refusal := takeTerm .black 60 s

/-- `BT61` = `000001011010` (44_decoder.md R109, 30_encoding.md R50). -/
def execBt61 (s : State) : Host.Outcome State Fault Refusal := takeTerm .black 61 s

/-- `BT62` = `000001100110` (44_decoder.md R109, 30_encoding.md R50). -/
def execBt62 (s : State) : Host.Outcome State Fault Refusal := takeTerm .black 62 s

/-- `BT63` = `000001100111` (44_decoder.md R109, 30_encoding.md R50). -/
def execBt63 (s : State) : Host.Outcome State Fault Refusal := takeTerm .black 63 s

/-- `WM64` = `11011` (44_decoder.md R106, 30_encoding.md R51). -/
def execWm64 (s : State) : Host.Outcome State Fault Refusal := takeMakeup .white 64 s

/-- `WM128` = `10010` (44_decoder.md R106, 30_encoding.md R51). -/
def execWm128 (s : State) : Host.Outcome State Fault Refusal := takeMakeup .white 128 s

/-- `WM192` = `010111` (44_decoder.md R106, 30_encoding.md R51). -/
def execWm192 (s : State) : Host.Outcome State Fault Refusal := takeMakeup .white 192 s

/-- `WM256` = `0110111` (44_decoder.md R106, 30_encoding.md R51). -/
def execWm256 (s : State) : Host.Outcome State Fault Refusal := takeMakeup .white 256 s

/-- `WM320` = `00110110` (44_decoder.md R106, 30_encoding.md R51). -/
def execWm320 (s : State) : Host.Outcome State Fault Refusal := takeMakeup .white 320 s

/-- `WM384` = `00110111` (44_decoder.md R106, 30_encoding.md R51). -/
def execWm384 (s : State) : Host.Outcome State Fault Refusal := takeMakeup .white 384 s

/-- `WM448` = `01100100` (44_decoder.md R106, 30_encoding.md R51). -/
def execWm448 (s : State) : Host.Outcome State Fault Refusal := takeMakeup .white 448 s

/-- `WM512` = `01100101` (44_decoder.md R106, 30_encoding.md R51). -/
def execWm512 (s : State) : Host.Outcome State Fault Refusal := takeMakeup .white 512 s

/-- `WM576` = `01101000` (44_decoder.md R106, 30_encoding.md R51). -/
def execWm576 (s : State) : Host.Outcome State Fault Refusal := takeMakeup .white 576 s

/-- `WM640` = `01100111` (44_decoder.md R106, 30_encoding.md R51). -/
def execWm640 (s : State) : Host.Outcome State Fault Refusal := takeMakeup .white 640 s

/-- `WM704` = `011001100` (44_decoder.md R106, 30_encoding.md R51). -/
def execWm704 (s : State) : Host.Outcome State Fault Refusal := takeMakeup .white 704 s

/-- `WM768` = `011001101` (44_decoder.md R106, 30_encoding.md R51). -/
def execWm768 (s : State) : Host.Outcome State Fault Refusal := takeMakeup .white 768 s

/-- `WM832` = `011010010` (44_decoder.md R106, 30_encoding.md R51). -/
def execWm832 (s : State) : Host.Outcome State Fault Refusal := takeMakeup .white 832 s

/-- `WM896` = `011010011` (44_decoder.md R106, 30_encoding.md R51). -/
def execWm896 (s : State) : Host.Outcome State Fault Refusal := takeMakeup .white 896 s

/-- `WM960` = `011010100` (44_decoder.md R106, 30_encoding.md R51). -/
def execWm960 (s : State) : Host.Outcome State Fault Refusal := takeMakeup .white 960 s

/-- `WM1024` = `011010101` (44_decoder.md R106, 30_encoding.md R51). -/
def execWm1024 (s : State) : Host.Outcome State Fault Refusal := takeMakeup .white 1024 s

/-- `WM1088` = `011010110` (44_decoder.md R106, 30_encoding.md R51). -/
def execWm1088 (s : State) : Host.Outcome State Fault Refusal := takeMakeup .white 1088 s

/-- `WM1152` = `011010111` (44_decoder.md R106, 30_encoding.md R51). -/
def execWm1152 (s : State) : Host.Outcome State Fault Refusal := takeMakeup .white 1152 s

/-- `WM1216` = `011011000` (44_decoder.md R106, 30_encoding.md R51). -/
def execWm1216 (s : State) : Host.Outcome State Fault Refusal := takeMakeup .white 1216 s

/-- `WM1280` = `011011001` (44_decoder.md R106, 30_encoding.md R51). -/
def execWm1280 (s : State) : Host.Outcome State Fault Refusal := takeMakeup .white 1280 s

/-- `WM1344` = `011011010` (44_decoder.md R106, 30_encoding.md R51). -/
def execWm1344 (s : State) : Host.Outcome State Fault Refusal := takeMakeup .white 1344 s

/-- `WM1408` = `011011011` (44_decoder.md R106, 30_encoding.md R51). -/
def execWm1408 (s : State) : Host.Outcome State Fault Refusal := takeMakeup .white 1408 s

/-- `WM1472` = `010011000` (44_decoder.md R106, 30_encoding.md R51). -/
def execWm1472 (s : State) : Host.Outcome State Fault Refusal := takeMakeup .white 1472 s

/-- `WM1536` = `010011001` (44_decoder.md R106, 30_encoding.md R51). -/
def execWm1536 (s : State) : Host.Outcome State Fault Refusal := takeMakeup .white 1536 s

/-- `WM1600` = `010011010` (44_decoder.md R106, 30_encoding.md R51). -/
def execWm1600 (s : State) : Host.Outcome State Fault Refusal := takeMakeup .white 1600 s

/-- `WM1664` = `011000` (44_decoder.md R106, 30_encoding.md R51). -/
def execWm1664 (s : State) : Host.Outcome State Fault Refusal := takeMakeup .white 1664 s

/-- `WM1728` = `010011011` (44_decoder.md R106, 30_encoding.md R51). -/
def execWm1728 (s : State) : Host.Outcome State Fault Refusal := takeMakeup .white 1728 s

/-- `WM1792` = `00000001000` (44_decoder.md R106, 30_encoding.md R53). -/
def execWm1792 (s : State) : Host.Outcome State Fault Refusal := takeMakeup .white 1792 s

/-- `WM1856` = `00000001100` (44_decoder.md R106, 30_encoding.md R53). -/
def execWm1856 (s : State) : Host.Outcome State Fault Refusal := takeMakeup .white 1856 s

/-- `WM1920` = `00000001101` (44_decoder.md R106, 30_encoding.md R53). -/
def execWm1920 (s : State) : Host.Outcome State Fault Refusal := takeMakeup .white 1920 s

/-- `WM1984` = `000000010010` (44_decoder.md R106, 30_encoding.md R53). -/
def execWm1984 (s : State) : Host.Outcome State Fault Refusal := takeMakeup .white 1984 s

/-- `WM2048` = `000000010011` (44_decoder.md R106, 30_encoding.md R53). -/
def execWm2048 (s : State) : Host.Outcome State Fault Refusal := takeMakeup .white 2048 s

/-- `WM2112` = `000000010100` (44_decoder.md R106, 30_encoding.md R53). -/
def execWm2112 (s : State) : Host.Outcome State Fault Refusal := takeMakeup .white 2112 s

/-- `WM2176` = `000000010101` (44_decoder.md R106, 30_encoding.md R53). -/
def execWm2176 (s : State) : Host.Outcome State Fault Refusal := takeMakeup .white 2176 s

/-- `WM2240` = `000000010110` (44_decoder.md R106, 30_encoding.md R53). -/
def execWm2240 (s : State) : Host.Outcome State Fault Refusal := takeMakeup .white 2240 s

/-- `WM2304` = `000000010111` (44_decoder.md R106, 30_encoding.md R53). -/
def execWm2304 (s : State) : Host.Outcome State Fault Refusal := takeMakeup .white 2304 s

/-- `WM2368` = `000000011100` (44_decoder.md R106, 30_encoding.md R53). -/
def execWm2368 (s : State) : Host.Outcome State Fault Refusal := takeMakeup .white 2368 s

/-- `WM2432` = `000000011101` (44_decoder.md R106, 30_encoding.md R53). -/
def execWm2432 (s : State) : Host.Outcome State Fault Refusal := takeMakeup .white 2432 s

/-- `WM2496` = `000000011110` (44_decoder.md R106, 30_encoding.md R53). -/
def execWm2496 (s : State) : Host.Outcome State Fault Refusal := takeMakeup .white 2496 s

/-- `WM2560` = `000000011111` (44_decoder.md R106, 30_encoding.md R53). -/
def execWm2560 (s : State) : Host.Outcome State Fault Refusal := takeMakeup .white 2560 s

/-- `BM64` = `0000001111` (44_decoder.md R108, 30_encoding.md R52). -/
def execBm64 (s : State) : Host.Outcome State Fault Refusal := takeMakeup .black 64 s

/-- `BM128` = `000011001000` (44_decoder.md R108, 30_encoding.md R52). -/
def execBm128 (s : State) : Host.Outcome State Fault Refusal := takeMakeup .black 128 s

/-- `BM192` = `000011001001` (44_decoder.md R108, 30_encoding.md R52). -/
def execBm192 (s : State) : Host.Outcome State Fault Refusal := takeMakeup .black 192 s

/-- `BM256` = `000001011011` (44_decoder.md R108, 30_encoding.md R52). -/
def execBm256 (s : State) : Host.Outcome State Fault Refusal := takeMakeup .black 256 s

/-- `BM320` = `000000110011` (44_decoder.md R108, 30_encoding.md R52). -/
def execBm320 (s : State) : Host.Outcome State Fault Refusal := takeMakeup .black 320 s

/-- `BM384` = `000000110100` (44_decoder.md R108, 30_encoding.md R52). -/
def execBm384 (s : State) : Host.Outcome State Fault Refusal := takeMakeup .black 384 s

/-- `BM448` = `000000110101` (44_decoder.md R108, 30_encoding.md R52). -/
def execBm448 (s : State) : Host.Outcome State Fault Refusal := takeMakeup .black 448 s

/-- `BM512` = `0000001101100` (44_decoder.md R108, 30_encoding.md R52). -/
def execBm512 (s : State) : Host.Outcome State Fault Refusal := takeMakeup .black 512 s

/-- `BM576` = `0000001101101` (44_decoder.md R108, 30_encoding.md R52). -/
def execBm576 (s : State) : Host.Outcome State Fault Refusal := takeMakeup .black 576 s

/-- `BM640` = `0000001001010` (44_decoder.md R108, 30_encoding.md R52). -/
def execBm640 (s : State) : Host.Outcome State Fault Refusal := takeMakeup .black 640 s

/-- `BM704` = `0000001001011` (44_decoder.md R108, 30_encoding.md R52). -/
def execBm704 (s : State) : Host.Outcome State Fault Refusal := takeMakeup .black 704 s

/-- `BM768` = `0000001001100` (44_decoder.md R108, 30_encoding.md R52). -/
def execBm768 (s : State) : Host.Outcome State Fault Refusal := takeMakeup .black 768 s

/-- `BM832` = `0000001001101` (44_decoder.md R108, 30_encoding.md R52). -/
def execBm832 (s : State) : Host.Outcome State Fault Refusal := takeMakeup .black 832 s

/-- `BM896` = `0000001110010` (44_decoder.md R108, 30_encoding.md R52). -/
def execBm896 (s : State) : Host.Outcome State Fault Refusal := takeMakeup .black 896 s

/-- `BM960` = `0000001110011` (44_decoder.md R108, 30_encoding.md R52). -/
def execBm960 (s : State) : Host.Outcome State Fault Refusal := takeMakeup .black 960 s

/-- `BM1024` = `0000001110100` (44_decoder.md R108, 30_encoding.md R52). -/
def execBm1024 (s : State) : Host.Outcome State Fault Refusal := takeMakeup .black 1024 s

/-- `BM1088` = `0000001110101` (44_decoder.md R108, 30_encoding.md R52). -/
def execBm1088 (s : State) : Host.Outcome State Fault Refusal := takeMakeup .black 1088 s

/-- `BM1152` = `0000001110110` (44_decoder.md R108, 30_encoding.md R52). -/
def execBm1152 (s : State) : Host.Outcome State Fault Refusal := takeMakeup .black 1152 s

/-- `BM1216` = `0000001110111` (44_decoder.md R108, 30_encoding.md R52). -/
def execBm1216 (s : State) : Host.Outcome State Fault Refusal := takeMakeup .black 1216 s

/-- `BM1280` = `0000001010010` (44_decoder.md R108, 30_encoding.md R52). -/
def execBm1280 (s : State) : Host.Outcome State Fault Refusal := takeMakeup .black 1280 s

/-- `BM1344` = `0000001010011` (44_decoder.md R108, 30_encoding.md R52). -/
def execBm1344 (s : State) : Host.Outcome State Fault Refusal := takeMakeup .black 1344 s

/-- `BM1408` = `0000001010100` (44_decoder.md R108, 30_encoding.md R52). -/
def execBm1408 (s : State) : Host.Outcome State Fault Refusal := takeMakeup .black 1408 s

/-- `BM1472` = `0000001010101` (44_decoder.md R108, 30_encoding.md R52). -/
def execBm1472 (s : State) : Host.Outcome State Fault Refusal := takeMakeup .black 1472 s

/-- `BM1536` = `0000001011010` (44_decoder.md R108, 30_encoding.md R52). -/
def execBm1536 (s : State) : Host.Outcome State Fault Refusal := takeMakeup .black 1536 s

/-- `BM1600` = `0000001011011` (44_decoder.md R108, 30_encoding.md R52). -/
def execBm1600 (s : State) : Host.Outcome State Fault Refusal := takeMakeup .black 1600 s

/-- `BM1664` = `0000001100100` (44_decoder.md R108, 30_encoding.md R52). -/
def execBm1664 (s : State) : Host.Outcome State Fault Refusal := takeMakeup .black 1664 s

/-- `BM1728` = `0000001100101` (44_decoder.md R108, 30_encoding.md R52). -/
def execBm1728 (s : State) : Host.Outcome State Fault Refusal := takeMakeup .black 1728 s

/-- `BM1792` = `00000001000` (44_decoder.md R108, 30_encoding.md R53). -/
def execBm1792 (s : State) : Host.Outcome State Fault Refusal := takeMakeup .black 1792 s

/-- `BM1856` = `00000001100` (44_decoder.md R108, 30_encoding.md R53). -/
def execBm1856 (s : State) : Host.Outcome State Fault Refusal := takeMakeup .black 1856 s

/-- `BM1920` = `00000001101` (44_decoder.md R108, 30_encoding.md R53). -/
def execBm1920 (s : State) : Host.Outcome State Fault Refusal := takeMakeup .black 1920 s

/-- `BM1984` = `000000010010` (44_decoder.md R108, 30_encoding.md R53). -/
def execBm1984 (s : State) : Host.Outcome State Fault Refusal := takeMakeup .black 1984 s

/-- `BM2048` = `000000010011` (44_decoder.md R108, 30_encoding.md R53). -/
def execBm2048 (s : State) : Host.Outcome State Fault Refusal := takeMakeup .black 2048 s

/-- `BM2112` = `000000010100` (44_decoder.md R108, 30_encoding.md R53). -/
def execBm2112 (s : State) : Host.Outcome State Fault Refusal := takeMakeup .black 2112 s

/-- `BM2176` = `000000010101` (44_decoder.md R108, 30_encoding.md R53). -/
def execBm2176 (s : State) : Host.Outcome State Fault Refusal := takeMakeup .black 2176 s

/-- `BM2240` = `000000010110` (44_decoder.md R108, 30_encoding.md R53). -/
def execBm2240 (s : State) : Host.Outcome State Fault Refusal := takeMakeup .black 2240 s

/-- `BM2304` = `000000010111` (44_decoder.md R108, 30_encoding.md R53). -/
def execBm2304 (s : State) : Host.Outcome State Fault Refusal := takeMakeup .black 2304 s

/-- `BM2368` = `000000011100` (44_decoder.md R108, 30_encoding.md R53). -/
def execBm2368 (s : State) : Host.Outcome State Fault Refusal := takeMakeup .black 2368 s

/-- `BM2432` = `000000011101` (44_decoder.md R108, 30_encoding.md R53). -/
def execBm2432 (s : State) : Host.Outcome State Fault Refusal := takeMakeup .black 2432 s

/-- `BM2496` = `000000011110` (44_decoder.md R108, 30_encoding.md R53). -/
def execBm2496 (s : State) : Host.Outcome State Fault Refusal := takeMakeup .black 2496 s

/-- `BM2560` = `000000011111` (44_decoder.md R108, 30_encoding.md R53). -/
def execBm2560 (s : State) : Host.Outcome State Fault Refusal := takeMakeup .black 2560 s

/-- `EOL` = `000000000001` (44_decoder.md R105, 30_encoding.md R54). -/
def execEol (s : State) : Host.Outcome State Fault Refusal := takeEol s

/-- The reserved prefix `000000001` (44_decoder.md R111, 30_encoding.md R58). -/
def execReserved000000001 (s : State) : Host.Outcome State Fault Refusal := takeReserved .zeros8one s

/-- The reserved prefix `0000000001` (44_decoder.md R111, 30_encoding.md R58). -/
def execReserved0000000001 (s : State) : Host.Outcome State Fault Refusal := takeReserved .zeros9one s

/-- The reserved prefix `00000000001` (44_decoder.md R111, 30_encoding.md R58). -/
def execReserved00000000001 (s : State) : Host.Outcome State Fault Refusal := takeReserved .zeros10one s

/-- The reserved prefix `000000000000` (44_decoder.md R111, 30_encoding.md R58). -/
def execReserved000000000000 (s : State) : Host.Outcome State Fault Refusal := takeReserved .zeros12 s

end Sys2Proof.Machine
end

