-- ==== Sys2Proof/Machine/HostActions.lean ====
section
/-! DEFINITION. The meanings of the host's actions and of the two commands (45_host_commands.md). -/

namespace Sys2Proof.Machine

/-- `ENCODE_ROW`: the start of the operation, whose loop the following steps run (45_host_commands.md R124;
92_eei_decisions.md D1). -/
def execEncodeRow (s : State) : Host.Outcome State Fault Refusal := whenIdle s (.next (startEncode s))

/-- `DECODE_ROW`: the start of the operation, whose loop the following steps run (45_host_commands.md R125;
92_eei_decisions.md D1). -/
def execDecodeRow (s : State) : Host.Outcome State Fault Refusal := whenIdle s (.next (startDecode s))

/-- `RD reg` (45_host_commands.md R121). -/
def execRd (reg : Nat) (s : State) : Host.Outcome State Fault Refusal :=
  whenIdle s (match readReg reg s with
    | some v => .next (giveBack (.number v) s)
    | none => .refused .noSuchRegister)

/-- `WR reg, value` (45_host_commands.md R122). -/
def execWr (reg value : Nat) (s : State) : Host.Outcome State Fault Refusal :=
  whenIdle s (match writeReg reg value s with
    | some t => .next t
    | none => .refused .noSuchRegister)

/-- `WRBUF mem, addr, bytes` (45_host_commands.md R126). -/
def execWrbuf (mem : MemSel) (addr : Nat) (bytes : List Byte) (s : State) : Host.Outcome State Fault Refusal :=
  whenIdle s (if bytesExist mem addr bytes.length s then .next (writeBytes mem addr bytes s)
    else .fault .noSuchAddress)

/-- `RDBUF mem, addr, n` (45_host_commands.md R126). -/
def execRdbuf (mem : MemSel) (addr n : Nat) (s : State) : Host.Outcome State Fault Refusal :=
  whenIdle s (if bytesExist mem addr n s then .next (giveBack (.bytes (readBytes mem s addr n)) s)
    else .fault .noSuchAddress)

/-- `RESET` (70_reset_and_hazards.md R140, R141). -/
def execReset (s : State) : Host.Outcome State Fault Refusal := .next (resetEvent s)

end Sys2Proof.Machine
end

