-- ==== Sys2Proof/Machine/Units.lean ====
section
/-! DEFINITION. The meanings of the internal operations of the units (40_lut_rom.md to 44_decoder.md). -/

namespace Sys2Proof.Machine

/-- A lookup's answer, or the refusal of a key outside its domain (93_implementation_defined.md U18). -/
def giveCode (k : Option Code) (s : State) : Host.Outcome State Fault Refusal :=
  match k with
  | some k => .next (giveBack (.code k) s)
  | none => .refused .outsideDomain

-- ## huffman_lut_rom

/-- `LUT.TERM(c, n)` (40_lut_rom.md R64). -/
def execLutTerm (c : Color) (n : Nat) (s : State) : Host.Outcome State Fault Refusal := giveCode (lutTerm? c n) s

/-- `LUT.MAKEUP(c, q)` (40_lut_rom.md R65). -/
def execLutMakeup (c : Color) (q : Nat) (s : State) : Host.Outcome State Fault Refusal := giveCode (lutMakeup? c q) s

/-- `LUT.MAXQ_LE(n)` (40_lut_rom.md R66). -/
def execLutMaxqLe (n : Nat) (s : State) : Host.Outcome State Fault Refusal :=
  if Config.quantum ≤ n then .next (giveBack (.number (maxqLe n)) s) else .refused .outsideDomain

/-- `LUT.IS_EOL(v, l)` (40_lut_rom.md R67). DESIGN CHOICE (assumption log 26): a length above 14 is answered false. -/
def execLutIsEol (v : BitVec 14) (l : Nat) (s : State) : Host.Outcome State Fault Refusal :=
  .next (giveBack (.truth (isEol v l)) s)

/-- `LUT.MATCH_MAKEUP(c, v, l)` (40_lut_rom.md R68). -/
def execLutMatchMakeup (c : Color) (v : BitVec 14) (l : Nat) (s : State) : Host.Outcome State Fault Refusal :=
  .next (giveBack (.match? (matchMakeup c v l)) s)

/-- `LUT.MATCH_TERM(c, v, l)` (40_lut_rom.md R69). -/
def execLutMatchTerm (c : Color) (v : BitVec 14) (l : Nat) (s : State) : Host.Outcome State Fault Refusal :=
  .next (giveBack (.match? (matchTerm c v l)) s)

-- ## bit_reader_natorder

/-- `NR.OPEN(w)` (41_bit_accessors.md R72). DESIGN CHOICE (assumption log 11): above MAX_ROW_BITS, `nr_lim` gets a free value
within the bound of 10_state.md R13. -/
def execNrOpen (w : Nat) (s : State) : Host.Outcome State Fault Refusal :=
  if Config.within w s.cap.maxRowBits then .next (nrOpen w s)
  else .next (nrOpen (Config.upTo s.cap.maxRowBits (freeValue s)) (tookFree s))

/-- `NR.READ1()` (41_bit_accessors.md R73). -/
def execNrRead1 (s : State) : Host.Outcome State Fault Refusal :=
  if s.nrPos < s.nrLim then .next (giveBack (.bit (pixBit s s.nrPos)) (nrAdvance 1 s)) else .refused .notEnabled

/-- `NR.READ(k)` (41_bit_accessors.md R74). DESIGN CHOICE (assumption log 11): for `k` outside 1 to 13, a free value of `k`
bits is returned. -/
def execNrRead (k : Nat) (s : State) : Host.Outcome State Fault Refusal :=
  if s.nrPos + k ≤ s.nrLim then
    if bitCountOk k then .next (giveBack (.number (gatherBits (pixBit s) s.nrPos k 0)) (nrAdvance k s))
    else .next (giveBack (.number (freeValue s % 2 ^ k)) (nrAdvance k (tookFree s)))
  else .refused .notEnabled

/-- `NR.EOF()` (41_bit_accessors.md R75). -/
def execNrEof (s : State) : Host.Outcome State Fault Refusal := .next (giveBack (.truth (s.nrPos == s.nrLim)) s)

-- ## bit_writer_transmitorder

/-- `TW.OPEN()` (41_bit_accessors.md R76). -/
def execTwOpen (s : State) : Host.Outcome State Fault Refusal := .next (twOpen s)

/-- `TW.WRITE(v, k)` (41_bit_accessors.md R77). DESIGN CHOICE (assumption log 11): for `k` outside 1 to 13 or `v` of more
than `k` bits, the `k` bits written are free ones. -/
def execTwWrite (v : BitVec 13) (k : Nat) (s : State) : Host.Outcome State Fault Refusal :=
  if bitCountOk k && v.toNat < 2 ^ k then twWriteBits (bitsMsbFirst k v) s
  else twWriteBits (numberBits k (freeValue s)) (tookFree s)

/-- `TW.FLUSH()` (41_bit_accessors.md R78). -/
def execTwFlush (s : State) : Host.Outcome State Fault Refusal := twFlush s

/-- `TW.CLOSE()` (41_bit_accessors.md R79). -/
def execTwClose (s : State) : Host.Outcome State Fault Refusal :=
  if s.twPos % 8 = 0 then .next (giveBack (.number (s.twPos / 8)) s) else .refused .notFlushed

-- ## bit_reader_transmitorder

/-- `TR.OPEN(m)` (41_bit_accessors.md R80). DESIGN CHOICE (assumption log 11): above MAX_CODE_BYTES, `tr_lim` is 8 times a
free value, within the bound of 10_state.md R18. -/
def execTrOpen (m : Nat) (s : State) : Host.Outcome State Fault Refusal :=
  if Config.within m s.cap.maxCodeBytes then .next (trOpen m s)
  else .next (trOpen (Config.upTo s.cap.maxCodeBytes (freeValue s)) (tookFree s))

/-- `TR.READ1()` (41_bit_accessors.md R81). -/
def execTrRead1 (s : State) : Host.Outcome State Fault Refusal :=
  if s.trPos < s.trLim then .next (giveBack (.bit (codeBit s s.trPos)) (trAdvance 1 s)) else .refused .notEnabled

/-- `TR.READ(k)` (41_bit_accessors.md R82). DESIGN CHOICE (assumption log 11): for `k` outside 1 to 13, a free value of `k`
bits is returned. -/
def execTrRead (k : Nat) (s : State) : Host.Outcome State Fault Refusal :=
  if s.trPos + k ≤ s.trLim then
    if bitCountOk k then .next (giveBack (.number (gatherBits (codeBit s) s.trPos k 0)) (trAdvance k s))
    else .next (giveBack (.number (freeValue s % 2 ^ k)) (trAdvance k (tookFree s)))
  else .refused .notEnabled

/-- `TR.EOF()` (41_bit_accessors.md R83). -/
def execTrEof (s : State) : Host.Outcome State Fault Refusal := .next (giveBack (.truth (s.trPos == s.trLim)) s)

-- ## bit_writer_natorder

/-- `NW.OPEN()` (41_bit_accessors.md R84). -/
def execNwOpen (s : State) : Host.Outcome State Fault Refusal := .next (nwOpen s)

/-- `NW.WRITE_RUN(c, n)` (41_bit_accessors.md R85). DESIGN CHOICE (assumption log 26): a run above 2560 pixels is written
too, where it fits. -/
def execNwWriteRun (c : Color) (n : Nat) (s : State) : Host.Outcome State Fault Refusal := .next (nwWriteRun c n s).state

/-- `NW.CLOSE()` (41_bit_accessors.md R86). -/
def execNwClose (s : State) : Host.Outcome State Fault Refusal := .next (giveBack (.number s.nwPos) (nwClose s))

-- ## run_length_scanner

/-- `SCAN.INIT()` (42_run_length_scanner.md R88). -/
def execScanInit (s : State) : Host.Outcome State Fault Refusal := .next (scanInit s)

/-- `SCAN.PIXEL(b)` (42_run_length_scanner.md R89; executed alone: assumption log 26, 27). -/
def execScanPixel (b : Bool) (s : State) : Host.Outcome State Fault Refusal := scanPixel b s

/-- `SCAN.END(w)` (42_run_length_scanner.md R90; executed alone: assumption log 26, 27). -/
def execScanEnd (w : Nat) (s : State) : Host.Outcome State Fault Refusal := scanEnd w s

-- ## huffman_encoder_t4_t6

/-- `ENC.FLUSH_RUN(c, n)` (43_encoder.md R94). DESIGN CHOICE (assumption log 26): a run longer than MAX_ROW_BITS, for which
the rule gives no behaviour, is flushed by the same loop. -/
def execEncFlushRun (c : Color) (n : Nat) (s : State) : Host.Outcome State Fault Refusal := flushRun c n s

-- ## huffman_decoder_t4_t6

/-- `DEC.INIT()` (44_decoder.md R103). -/
def execDecInit (s : State) : Host.Outcome State Fault Refusal := .next (decInit s)

/-- `DEC.BIT(b)` (44_decoder.md R104). -/
def execDecBit (b : Bool) (s : State) : Host.Outcome State Fault Refusal := .next (decBit b s).state

/-- `DEC.END()` (44_decoder.md R115). DESIGN CHOICE (assumption log 27): executed alone while `tr_pos < tr_lim`, which
DECODE_ROW never does, it has the same effect, with that `tr_pos`. -/
def execDecEnd (s : State) : Host.Outcome State Fault Refusal := .next (decEnd s).state

end Sys2Proof.Machine
end

