-- ==== Sys2Proof/Machine/Sequencer.lean ====
section
/-! DEFINITION. What one step runs: the next action of the host, one turn of ENCODE_ROW, or one string of the stream in
DECODE_ROW (00_scope.md R5, 92_eei_decisions.md D1); and how a table word is placed where the step takes its next
instruction from. -/

namespace Sys2Proof.Machine

/-- The end of ENCODE_ROW: SCAN.END, TW.FLUSH, OUT_LEN, normal end (43_encoder.md R98). -/
def finishEncode (s : State) : Host.Outcome State Fault Refusal :=
  match scanEnd s.nrLim s with
  | .next t =>
    match twFlush t with
    | .next u => .next (endNormally { u with outLen := u.twPos / 8 })
    | .fault r => .fault r
    | .refused r => .refused r
  | .fault r => .fault r
  | .refused r => .refused r

/-- One turn of the loop of ENCODE_ROW, `SCAN.PIXEL(NR.READ1())`, or its end at `NR.EOF()` (43_encoder.md R98). -/
def encodeTurn (s : State) : Host.Outcome State Fault Refusal :=
  if s.nrPos = s.nrLim then finishEncode s
  else if s.nrPos < s.nrLim then exec (.scanPixel (pixBit s s.nrPos)) (nrAdvance 1 s)
  else .refused .notEnabled

/-- The end of DECODE_ROW: DEC.END, and the normal end unless that raised (44_decoder.md R115, R117). -/
def finishDecode (s : State) : State :=
  match decEnd s with
  | .goes t => endNormally t
  | .ends t => t

/-- The instruction the decoder reads next, if its next bits are one: at most 14 bits decide (44_decoder.md R104). -/
def nextInstr (s : State) : Decoded := decodeBits s.decState (streamBits s s.trPos (Config.maxCodeLen + 1))

/-- One string of the stream in DECODE_ROW, or its end at `TR.EOF()` (44_decoder.md R117): the instruction the next bits
are, or else the bits one by one, to FormatError or to the end of the input (44_decoder.md R111, R115). -/
def decodeTurn (s : State) : Host.Outcome State Fault Refusal :=
  if s.trPos = s.trLim then .next (finishDecode s)
  else if s.trPos < s.trLim then
    if atBoundary s then
      match nextInstr s with
      | .instr i _ => exec i s
      | .noCode => .next (readOn (Config.maxCodeLen + 1) s).state
      | .inputEnds => .next (readOn (Config.maxCodeLen + 1) s).state
    else .next (readOn (Config.maxCodeLen + 1) s).state
  else .refused .notEnabled

/-- The instruction a host action is: the value written to CMD decodes to a command (45_host_commands.md R123,
30_encoding.md R60), every other action is the instruction of its name. -/
def HostAction.instr : HostAction → Instr
  | .rd reg => .rd reg
  | .wr 0 v => decodeCmd v
  | .wr (reg + 1) v => .wr (reg + 1) v
  | .wrbuf mem addr bytes => .wrbuf mem addr bytes
  | .rdbuf mem addr n => .rdbuf mem addr n
  | .reset => .reset

/-- The next action of the host; with none to come the block waits (70_reset_and_hazards.md R141). -/
def hostTurn (s : State) : Host.Outcome State Fault Refusal :=
  match s.pending with
  | [] => .next s
  | a :: rest => exec a.instr { s with pending := rest }

/-- A stream placed at the start of CODE, the decoder about to read it in a given state. -/
def placeStream (st : DecState) (bs : List Bool) (s : State) : State :=
  { writeBytes .code 0 (packBytes (max 2 (ceil8 bs.length)) bs) s with
    busy := some .decodeRow
    decState := st
    curVal := 0
    curLen := 0
    trPos := 0
    trLim := 8 * max 2 (ceil8 bs.length) }

/-- An action placed first among those to come. -/
def placeAction (a : HostAction) (s : State) : State := { s with busy := none, pending := a :: s.pending }

/-- An instruction whose bits are `w`, numbered as spec/opcode_table.json numbers them, placed where the step takes its
next instruction from (assumption log 13). -/
def placeWord (nbits w : Nat) (s : State) : State :=
  match findTableCode nbits w with
  | some (len, st, _) => placeStream st (numberBits len w) s
  | none => if nbits = 8 then placeAction (.wr 0 w) s else placeStream .expectingWhiteRun (numberBits nbits w) s

end Sys2Proof.Machine
end

