-- ==== Sys2Proof/Machine/Step.lean ====
section
/-! DEFINITION. One step of the machine. -/

namespace Sys2Proof.Machine

/-- One step: a turn of the operation that runs, or else the next action of the host (assumption log 1). -/
def step (s : State) : Host.Outcome State Fault Refusal :=
  match s.busy with
  | some .encodeRow => encodeTurn s
  | some .decodeRow => decodeTurn s
  | none => hostTurn s

/-- `s` with an instruction, its bits numbered as spec/opcode_table.json numbers them, placed so that the next step runs
it (assumption log 13). -/
def State.withFetchWord (s : State) (nbits w : Nat) : State := placeWord nbits w s

end Sys2Proof.Machine
end

