-- ==== Sys2Proof/Safety.lean ====
section
/-! DEFINITION. The terms statements about runs use: the invariants of a run, the states a command can start in, and the
row and its runs as functions of the pixels. -/

namespace Sys2Proof.Machine

/-- Every listed byte of a memory exists (20_memory.md R45). -/
def cellsInside (mem : MemSel) (s : State) : Bool :=
  (match mem with | .pix => s.pix | .code => s.code).cells.all fun c => Config.within (c.1 + 1) (memSize mem s)

/-- What the rules say holds between steps: the memories keep their canonical form and hold no byte that does not exist,
the positions stay within their limits (10_state.md R13, R14, R18, R19), the accumulator has at most 13 bits and its value
no more bits than its length (R16, R17), and the pixel counter does not exceed the pixels read (R12). -/
structure Inv (s : State) : Prop where
  pixCanonical : s.pix.wf = true
  codeCanonical : s.code.wf = true
  pixInside : cellsInside .pix s = true
  codeInside : cellsInside .code s = true
  nrPosWithinLimit : s.nrPos ≤ s.nrLim
  nrLimFits : Config.within s.nrLim s.cap.maxRowBits = true
  twPosFits : Config.within s.twPos (s.cap.maxCodeBytes.map (8 * ·)) = true
  trPosWithinLimit : s.trPos ≤ s.trLim
  trLimFits : Config.within s.trLim (s.cap.maxCodeBytes.map (8 * ·)) = true
  nwPosFits : Config.within s.nwPos s.cap.maxRowBits = true
  curLenAtMost13 : s.curLen ≤ 13
  curValFits : s.curVal.toNat < 2 ^ s.curLen
  runCntAtMostRead : s.busy = some .encodeRow → s.runCnt ≤ s.nrPos

/-- How STATUS and ERR_CODE go together (10_state.md R24, R29): no error is shown while an operation runs; between
operations ERR is set exactly when ERR_CODE names an exception; and ERR is never set without DONE. -/
def ResultsAgree (s : State) : Prop :=
  (s.busy ≠ none → s.err = false) ∧ (s.busy = none → (s.err = true ↔ s.errCode ≠ 0)) ∧ (s.err = true → s.done = true)

/-- While ENCODE_ROW runs: what its writer has used so far, against the bound of 43_encoder.md R99. -/
def EncodeRoom (s : State) : Prop :=
  s.busy = some .encodeRow →
    (s.nrPos = 0 → s.twPos = 0 ∧ s.runCnt = 0 ∧ s.curColor = .white) ∧
      (0 < s.nrPos → 0 < s.runCnt ∧ s.twPos + 6 * s.runCnt ≤ 8 + 6 * s.nrPos)

/-- The row: the first `w` pixels of PIX, in order (20_memory.md R35). -/
def rowPixels (s : State) (w : Nat) : List Bool := (List.range w).map (pixBit s)

/-- The maximal runs of a row (00_scope.md, glossary; 42_run_length_scanner.md R92). -/
def maximalRuns (row : List Bool) : List (Color × Nat) :=
  (row.splitBy (· == ·)).map fun run => (colorOf (run.headD Config.whiteBit), run.length)

/-- `runs(row)` (42_run_length_scanner.md R92): the maximal runs, behind a White run of length 0 if the first is Black. -/
def runsOf (row : List Bool) : List (Color × Nat) :=
  match maximalRuns row with
  | (.black, n) :: rest => (.white, 0) :: (.black, n) :: rest
  | runs => runs

/-- The code bits of a row, without pad bits (43_encoder.md R98). -/
def rowBits (row : List Bool) : List Bool :=
  (runsOf row).flatMap fun run => (runCodes run.1 run.2).flatMap Code.bits

/-- A round-trip row (43_encoder.md R97). -/
def roundTripRow (row : List Bool) : Bool := (maximalRuns row).all fun run => run.2 ≤ Config.runRtMax

/-- Two states in which DECODE_ROW has the same inputs (10_state.md R20): the input bytes of CODE, IN_LEN, CTRL,
EXP_WIDTH and the parameters. -/
def SameDecodeInputs (s t : State) : Prop :=
  s.inLen = t.inLen ∧ s.ctrl = t.ctrl ∧ s.expWidth = t.expWidth ∧ s.cap = t.cap ∧
    ∀ a, a < s.inLen → codeByte s a = codeByte t a

/-- A state between operations in which the host has one action to come, and it is the given instruction: for a command,
a write to CMD (45_host_commands.md R123). -/
def AboutToRun (i : Instr) (s : State) : Prop := s.busy = none ∧ ∃ a : HostAction, s.pending = [a] ∧ a.instr = i

end Sys2Proof.Machine
end

