-- ==== Sys2Proof/Certificates/Slice0/Obligations.lean ====
section
/-! DEFINITION. The statements for the provers. -/

open Sys2Proof Sys2Proof.Machine

/-- Some words written out from the encoding tables read as their instructions. Derived from: 30_encoding.md R49 to R54, 30_encoding.md R60, 20_memory.md R36. The model's choice (assumption log 13): how a table word is read, which the four clauses about decodeTableWord rest on. -/
def Obligations.TableWordsReadAsTheirInstructions : Prop :=
  decode .expectingWhiteRun [0x19] = .ok (.wt8, 5) ∧
  decode .whiteRunMakeupSeen [0xAC] = .ok (.wt0, 8) ∧
  decode .expectingBlackRun [0x02] = .ok (.bt1, 3) ∧
  decode .blackRunMakeupSeen [0xB0, 0x03] = .ok (.bt0, 10) ∧
  decode .expectingWhiteRun [0xB2, 0x01] = .ok (.wm1728, 9) ∧
  decode .expectingBlackRun [0xC0, 0x03] = .ok (.bm64, 10) ∧
  decode .expectingWhiteRun [0x80, 0x0F] = .ok (.wm2560, 12) ∧
  decode .expectingBlackRun [0x80, 0x0F] = .ok (.bm2560, 12) ∧
  decode .blackRunMakeupSeen [0x00, 0x08] = .ok (.eol, 12) ∧
  decode .expectingWhiteRun [0x00, 0x01] = .ok (.reserved000000001, 9) ∧
  decode .expectingWhiteRun [0x00] = .error .inputEnds ∧
  decode .whiteRunMakeupSeen [0x1B, 0x00] = .error .noCode ∧
  decodeTableWord 8 0x35 = some .wt0 ∧
  decodeTableWord 8 0x07 = some .bt14 ∧
  decodeTableWord 8 0 = some .encodeRow ∧
  decodeTableWord 8 1 = some .decodeRow

/-- Decode and encode agree for every instruction that has an encoding in bits. Derived from: 30_encoding.md R55, 30_encoding.md R57, 30_encoding.md R59, 30_encoding.md R60, 20_memory.md R36. -/
def Obligations.EncodedInstructionsDecodeToThemselves : Prop :=
  (∀ (i : Instr) (r : CodeRef), codeRefOf i = some r →
    ∃ bits bytes, encodeBits i = some bits ∧ encode i = some bytes ∧ bits.length = r.code.len ∧
      ∀ st : DecState, r.legalIn st = true →
        (∀ more : List Bool, decodeBits st (bits ++ more) = .instr i r.code.len) ∧
        (∀ more : List Byte, decode st (bytes ++ more) = .ok (i, r.code.len))) ∧
  (∀ (i : Instr) (v : Byte), encodeCmd i = some v →
    (i = .encodeRow ∨ i = .decodeRow) ∧ encode i = some [v] ∧ ∀ high : Nat, decodeCmd (v.toNat + 2 * high) = i) ∧
  (∀ i : Instr, codeRefOf i = none → i ≠ .encodeRow → i ≠ .decodeRow → encode i = none)

/-- Every 14-bit string begins with exactly one code, EOL or reserved prefix of the colour. Derived from: 30_encoding.md R58, 30_encoding.md R55, 93_implementation_defined.md G3. -/
def Obligations.EveryFourteenBitsBeginWithExactlyOneString : Prop :=
  ∀ (c : Color) (bs : List Bool), bs.length = 14 →
    ∃ r : CodeRef, ((codeInstr r).isSome = true ∧ r.legalIn (.expect c) = true ∧ r.code.bits <+: bs) ∧
      (∀ r' : CodeRef, (codeInstr r').isSome = true → r'.legalIn (.expect c) = true → r'.code.bits <+: bs → r' = r) ∧
      ∃ i, codeInstr r = some i ∧ decodeBits (.expect c) bs = .instr i r.code.len

/-- In a MakeupSeen state, a makeup code of the colour and what follows match nothing. Derived from: 30_encoding.md R59, 60_exceptions.md R129, 70_reset_and_hazards.md R145, 90_conflicts.md C1. -/
def Obligations.SecondMakeupCodeIsNeverMatched : Prop :=
  ∀ (c : Color) (q : Nat) (k : Code) (more : List Bool), lutMakeup? c q = some k →
    decodeBits (.makeupSeen c) (k.bits ++ more) = if 14 ≤ k.len + more.length then .noCode else .inputEnds

/-- LUT.TERM returns the terminating code of a colour and run length, and refuses run lengths above 63. Derived from: 40_lut_rom.md R64, 30_encoding.md R49, 30_encoding.md R50. -/
def Obligations.LutTermReturnsTheTerminatingCode : Prop :=
  (∀ (c : Color) (n : Nat) (s : State), n ≤ 63 →
    ∃ (k : Code) (i : Instr), codeRefOf i = some (.term c n) ∧ encodeBits i = some k.bits ∧ 2 ≤ k.len ∧ k.len ≤ 12 ∧
      exec (.lutTerm c n) s = .next { s with ret := .code k }) ∧
  (∀ (c : Color) (n : Nat) (s : State), 63 < n → exec (.lutTerm c n) s = .refused .outsideDomain) ∧
  (∀ s : State, exec (.lutTerm .white 8) s = .next { s with ret := .code ⟨0x13, 5⟩ } ∧
    exec (.lutTerm .black 1) s = .next { s with ret := .code ⟨0x2, 3⟩ } ∧
    exec (.lutTerm .white 0) s = .next { s with ret := .code ⟨0x35, 8⟩ } ∧
    exec (.lutTerm .black 63) s = .next { s with ret := .code ⟨0x67, 12⟩ })

/-- LUT.MAKEUP returns the makeup code of a colour and quantum, and refuses other operands. Derived from: 40_lut_rom.md R65, 30_encoding.md R51, 30_encoding.md R52, 30_encoding.md R53. -/
def Obligations.LutMakeupReturnsTheMakeupCode : Prop :=
  (∀ (c : Color) (q : Nat) (s : State), q % 64 = 0 → 64 ≤ q → q ≤ 2560 →
    ∃ (k : Code) (i : Instr), codeRefOf i = some (.makeup c q) ∧ encodeBits i = some k.bits ∧
      exec (.lutMakeup c q) s = .next { s with ret := .code k } ∧
      (1792 ≤ q → exec (.lutMakeup c.other q) s = .next { s with ret := .code k })) ∧
  (∀ (c : Color) (q : Nat) (s : State), (q % 64 ≠ 0 ∨ q < 64 ∨ 2560 < q) →
    exec (.lutMakeup c q) s = .refused .outsideDomain) ∧
  (∀ s : State, exec (.lutMakeup .white 1728) s = .next { s with ret := .code ⟨0x9B, 9⟩ } ∧
    exec (.lutMakeup .black 64) s = .next { s with ret := .code ⟨0xF, 10⟩ } ∧
    exec (.lutMakeup .black 2560) s = .next { s with ret := .code ⟨0x1F, 12⟩ })

/-- LUT.MAXQ_LE returns the largest makeup quantum not above its operand. Rules: R66. -/
def Obligations.LutMaxqLeReturnsTheLargestQuantum : Prop :=
  (∀ (n : Nat) (s : State), 64 ≤ n →
    ∃ q, q = min 2560 (64 * (n / 64)) ∧ exec (.lutMaxqLe n) s = .next { s with ret := .number q } ∧
      q ≤ n ∧ (∀ c : Color, (lutMakeup? c q).isSome = true) ∧
      ∀ (c : Color) (q' : Nat), (lutMakeup? c q').isSome = true → q' ≤ n → q' ≤ q) ∧
  (∀ (n : Nat) (s : State), n < 64 → exec (.lutMaxqLe n) s = .refused .outsideDomain)

/-- LUT.IS_EOL is true exactly for value 1 and length 12. Rules: R67. -/
def Obligations.LutIsEolHoldsForOneAndTwelveOnly : Prop :=
  ∀ (v : BitVec 14) (l : Nat) (s : State), l ≤ 14 → ∃ b : Bool, (b = true ↔ l = 12 ∧ v = 1) ∧
    exec (.lutIsEol v l) s = .next { s with ret := .truth b }

/-- LUT.MATCH_TERM and LUT.MATCH_MAKEUP are the inverses of LUT.TERM and LUT.MAKEUP. Rules: R68, R69. -/
def Obligations.LutMatchesInvertTheTable : Prop :=
  (∀ (c : Color) (v : BitVec 14) (l : Nat) (s : State), ∃ m : Option Nat,
    exec (.lutMatchTerm c v l) s = .next { s with ret := .match? m } ∧
    (∀ n, m = some n ↔ n ≤ 63 ∧ ∃ k, lutTerm? c n = some k ∧ k.len = l ∧ k.value.setWidth 14 = v) ∧
    (c = .white → ¬(4 ≤ l ∧ l ≤ 8) → m = none) ∧ (c = .black → ¬(2 ≤ l ∧ l ≤ 12) → m = none)) ∧
  (∀ (c : Color) (v : BitVec 14) (l : Nat) (s : State), ∃ m : Option Nat,
    exec (.lutMatchMakeup c v l) s = .next { s with ret := .match? m } ∧
    (∀ q, m = some q ↔ (q % 64 = 0 ∧ 64 ≤ q ∧ q ≤ 2560) ∧
      ∃ k, lutMakeup? c q = some k ∧ k.len = l ∧ k.value.setWidth 14 = v) ∧
    (c = .white → l ∉ [5, 6, 7, 8, 9, 11, 12] → m = none) ∧ (c = .black → l ∉ [10, 11, 12, 13] → m = none))

/-- NR.OPEN, NR.READ1 and NR.EOF. Rules: R72, R73, R75. -/
def Obligations.NaturalReaderOpensReadsAndEnds : Prop :=
  (∀ (w : Nat) (s : State), Config.within w s.cap.maxRowBits = true →
    exec (.nrOpen w) s = .next { s with nrPos := 0, nrLim := w }) ∧
  (∀ s : State, s.nrPos < s.nrLim →
    exec .nrRead1 s = .next { s with
      nrPos := s.nrPos + 1
      ret := .bit ((pixByte s (s.nrPos / 8)).getLsbD (7 - s.nrPos % 8)) }) ∧
  (∀ s : State, s.nrPos = s.nrLim → exec .nrRead1 s = .refused .notEnabled) ∧
  (∀ s : State, ∃ b : Bool, (b = true ↔ s.nrPos = s.nrLim) ∧ exec .nrEof s = .next { s with ret := .truth b })

/-- TR.OPEN, TR.READ1 and TR.EOF. Rules: R80, R81, R83. -/
def Obligations.TransmissionReaderOpensReadsAndEnds : Prop :=
  (∀ (m : Nat) (s : State), Config.within m s.cap.maxCodeBytes = true →
    exec (.trOpen m) s = .next { s with trPos := 0, trLim := 8 * m }) ∧
  (∀ s : State, s.trPos < s.trLim →
    exec .trRead1 s = .next { s with
      trPos := s.trPos + 1
      ret := .bit ((codeByte s (s.trPos / 8)).getLsbD (s.trPos % 8)) }) ∧
  (∀ s : State, s.trPos = s.trLim → exec .trRead1 s = .refused .notEnabled) ∧
  (∀ s : State, ∃ b : Bool, (b = true ↔ s.trPos = s.trLim) ∧ exec .trEof s = .next { s with ret := .truth b })

/-- NR.READ(k) and TR.READ(k) return k bits, the first read most significant. Derived from: 41_bit_accessors.md R74, 41_bit_accessors.md R82, 92_eei_decisions.md D18. -/
def Obligations.MultiBitReadsAssembleMostSignificantFirst : Prop :=
  (∀ (k : Nat) (s : State), 1 ≤ k → k ≤ 13 → s.nrPos + k ≤ s.nrLim →
    ∃ v, exec (.nrRead k) s = .next { s with nrPos := s.nrPos + k, ret := .number v } ∧ v < 2 ^ k ∧
      ∀ j, j < k → v.testBit (k - 1 - j) = pixBit s (s.nrPos + j)) ∧
  (∀ (k : Nat) (s : State), 1 ≤ k → k ≤ 13 → s.trPos + k ≤ s.trLim →
    ∃ v, exec (.trRead k) s = .next { s with trPos := s.trPos + k, ret := .number v } ∧ v < 2 ^ k ∧
      ∀ j, j < k → v.testBit (k - 1 - j) = codeBit s (s.trPos + j)) ∧
  (∀ (k : Nat) (s : State), 1 ≤ k → k ≤ 13 → s.nrLim < s.nrPos + k → exec (.nrRead k) s = .refused .notEnabled) ∧
  (∀ (k : Nat) (s : State), 1 ≤ k → k ≤ 13 → s.trLim < s.trPos + k → exec (.trRead k) s = .refused .notEnabled)

/-- TW.OPEN and TW.WRITE: the k bits of v at tw_pos, the most significant first, and nothing else. Derived from: 41_bit_accessors.md R76, 41_bit_accessors.md R77, 20_memory.md R36, 00_scope.md R9. The model's choice (assumption log 12): the fault past the end of CODE. -/
def Obligations.TransmissionWriterWritesMostSignificantBitFirst : Prop :=
  (∀ s : State, exec .twOpen s = .next { s with twPos := 0 }) ∧
  (∀ (v : BitVec 13) (k : Nat) (s : State), 1 ≤ k → k ≤ 13 → v.toNat < 2 ^ k → twRoom k s = true →
    ∃ t, exec (.twWrite v k) s = .next t ∧ t = { s with twPos := s.twPos + k, code := t.code } ∧
      ∀ p, codeBit t p = if s.twPos ≤ p ∧ p < s.twPos + k then v.getLsbD (k - 1 - (p - s.twPos)) else codeBit s p) ∧
  (∀ (v : BitVec 13) (k : Nat) (s : State), 1 ≤ k → k ≤ 13 → v.toNat < 2 ^ k → twRoom k s = false →
    exec (.twWrite v k) s = .fault .noSuchAddress)

/-- TW.FLUSH pads with 0 bits to a byte boundary, and TW.CLOSE returns the number of bytes. Rules: R78, R79. -/
def Obligations.FlushPadsToAByteAndCloseCountsBytes : Prop :=
  (∀ s : State, twRoom ((8 - s.twPos % 8) % 8) s = true →
    ∃ t, exec .twFlush s = .next t ∧ t = { s with twPos := 8 * ceil8 s.twPos, code := t.code } ∧
      (∀ p, codeBit t p = if s.twPos ≤ p ∧ p < 8 * ceil8 s.twPos then false else codeBit s p) ∧
      (s.twPos % 8 = 0 → t = s)) ∧
  (∀ s : State, s.twPos % 8 = 0 → exec .twClose s = .next { s with ret := .number (s.twPos / 8) }) ∧
  (∀ s : State, s.twPos % 8 ≠ 0 → exec .twClose s = .refused .notFlushed)

/-- TR.READ(k) after TW.WRITE(v, k) at the same position returns v. Derived from: 41_bit_accessors.md R82, 41_bit_accessors.md R87. -/
def Obligations.WrittenCodeReadsBack : Prop :=
  ∀ (v : BitVec 13) (k lim : Nat) (s t : State), 1 ≤ k → k ≤ 13 → v.toNat < 2 ^ k → twRoom k s = true →
    s.twPos + k ≤ lim → exec (.twWrite v k) s = .next t →
    exec (.trRead k) { t with trPos := s.twPos, trLim := lim } =
      .next { t with trPos := s.twPos + k, trLim := lim, ret := .number v.toNat }

/-- NW.OPEN and NW.WRITE_RUN: n pixels of the colour at nw_pos, and nothing else. Derived from: 41_bit_accessors.md R84, 41_bit_accessors.md R85, 20_memory.md R35. The model's choice (assumption log 26): that a run of more than 2560 pixels is written too. -/
def Obligations.NaturalWriterWritesARun : Prop :=
  (∀ s : State, exec .nwOpen s = .next { s with nwPos := 0 }) ∧
  (∀ (c : Color) (n : Nat) (s : State), Config.within (s.nwPos + n) s.cap.maxRowBits = true →
    ∃ t, exec (.nwWriteRun c n) s = .next t ∧ t = { s with nwPos := s.nwPos + n, pix := t.pix } ∧
      (∀ p, pixBit t p = if s.nwPos ≤ p ∧ p < s.nwPos + n then decide (c = .black) else pixBit s p) ∧
      (n = 0 → t = s))

/-- NW.CLOSE clears the unused bits of the last byte and returns nw_pos. Rules: R86. -/
def Obligations.NaturalWriterClosesTheLastByteWithZeros : Prop :=
  ∀ s : State, ∃ t, exec .nwClose s = .next t ∧ t = { s with ret := .number s.nwPos, pix := t.pix } ∧
    (∀ p, pixBit t p = if s.nwPos ≤ p ∧ p < 8 * ceil8 s.nwPos then false else pixBit s p) ∧
    (s.nwPos % 8 = 0 → t.pix = s.pix)

/-- SCAN.INIT, SCAN.PIXEL and SCAN.END. Derived from: 42_run_length_scanner.md R88, 42_run_length_scanner.md R89, 42_run_length_scanner.md R90. The model's choice (assumption log 26, 27): that the scanner does the same in states and on widths that no row gives. -/
def Obligations.ScannerCountsAndFlushes : Prop :=
  (∀ s : State, exec .scanInit s = .next { s with curColor := .white, runCnt := 0 }) ∧
  (∀ (b : Bool) (s : State), (b = true ↔ s.curColor = .black) →
    exec (.scanPixel b) s = .next { s with runCnt := s.runCnt + 1 }) ∧
  (∀ (b : Bool) (s : State), ¬(b = true ↔ s.curColor = .black) →
    twRoom ((runCodes s.curColor s.runCnt).flatMap Code.bits).length s = true →
    ∃ t, exec (.encFlushRun s.curColor s.runCnt) s = .next t ∧
      exec (.scanPixel b) s = .next { t with curColor := s.curColor.other, runCnt := 1 }) ∧
  (∀ (w : Nat) (s : State), 0 < w → twRoom ((runCodes s.curColor s.runCnt).flatMap Code.bits).length s = true →
    ∃ t, exec (.encFlushRun s.curColor s.runCnt) s = .next t ∧ exec (.scanEnd w) s = .next t) ∧
  (∀ s : State, exec (.scanEnd 0) s = .next s)

/-- ENC.FLUSH_RUN writes makeup codes, greatest first, and one terminating code, and nothing else. Derived from: 43_encoder.md R94, 43_encoder.md R95, 43_encoder.md R96, 30_encoding.md R62. The model's choice (assumption log 26): that a run longer than MAX_ROW_BITS is flushed too. -/
def Obligations.FlushRunWritesTheCodesOfTheRun : Prop :=
  (∀ (c : Color) (n : Nat), runCodes c n =
    if 63 < n then makeupCode c (maxqLe n) :: runCodes c (n - maxqLe n) else [termCode c n]) ∧
  (∀ (c : Color) (n : Nat) (s : State), twRoom ((runCodes c n).flatMap Code.bits).length s = true →
    ∃ t, exec (.encFlushRun c n) s = .next t ∧
      t = { s with twPos := s.twPos + ((runCodes c n).flatMap Code.bits).length, code := t.code } ∧
      ∀ p, codeBit t p =
        if s.twPos ≤ p ∧ p < s.twPos + ((runCodes c n).flatMap Code.bits).length
        then ((runCodes c n).flatMap Code.bits).getD (p - s.twPos) false else codeBit s p)

/-- A run has at most one makeup code exactly when it is at most 2623 pixels long. Rules: R97. -/
def Obligations.OneMakeupCodeExactlyUpToRoundTripLimit : Prop :=
  (∀ (c : Color) (n : Nat), (runCodes c n).length ≤ 2 ↔ n ≤ 2623) ∧
  (∀ row : List Bool, roundTripRow row = true ↔ ∀ run ∈ maximalRuns row, run.2 ≤ 2623) ∧
  (∀ row : List Bool, row.length ≤ 2623 → roundTripRow row = true)

/-- The runs of a row sum to its width, alternate from White, and only the first can be empty. Derived from: 42_run_length_scanner.md R91, 42_run_length_scanner.md R92. -/
def Obligations.RunsOfARowCoverIt : Prop :=
  ∀ row : List Bool,
    ((runsOf row).map Prod.snd).sum = row.length ∧
    (∀ (j : Nat) (run : Color × Nat), (runsOf row)[j]? = some run →
      (run.1 = .white ↔ j % 2 = 0) ∧ (0 < j → 0 < run.2) ∧ (j = 0 → (run.2 = 0 ↔ row.head? = some true))) ∧
    (row = [] → runsOf row = [])

/-- The code bits of a row of w >= 1 pixels are at most 8 + 6 * w. Derived from: 43_encoder.md R99. -/
def Obligations.EncodedRowIsShort : Prop :=
  ∀ row : List Bool, row ≠ [] → 1 ≤ (rowBits row).length ∧ (rowBits row).length ≤ 8 + 6 * row.length

/-- DEC.INIT, and DEC.BIT where no run is written: EOL and no match. Derived from: 44_decoder.md R102, 44_decoder.md R104, 44_decoder.md R105, 44_decoder.md R110, 44_decoder.md R112. -/
def Obligations.DecBitOnEolAndOnNoMatch : Prop :=
  (∀ s : State, exec .decInit s = .next { s with decState := .expectingWhiteRun, curVal := 0, curLen := 0 }) ∧
  (∀ (b : Bool) (s : State) (v : BitVec 14) (l : Nat),
    v = BitVec.ofNat 14 (2 * s.curVal.toNat + bitNat b) → l = s.curLen + 1 → l ≤ 13 →
    (v = 1 → l = 12 →
      exec (.decBit b) s = .next { s with decState := .expectingWhiteRun, curVal := 0, curLen := 0 }) ∧
    (¬(v = 1 ∧ l = 12) → (s.decState.expecting = true → matchMakeup s.decState.color v l = none) →
      matchTerm s.decState.color v l = none → exec (.decBit b) s = .next { s with curVal := v, curLen := l }))

/-- DEC.BIT on a match that fits: the run, the next state, an empty accumulator. Derived from: 44_decoder.md R104, 44_decoder.md R106, 44_decoder.md R107, 44_decoder.md R108, 44_decoder.md R109. -/
def Obligations.DecBitEmitsMatchedRuns : Prop :=
  ∀ (b : Bool) (s : State) (v : BitVec 14) (l : Nat),
    v = BitVec.ofNat 14 (2 * s.curVal.toNat + bitNat b) → l = s.curLen + 1 → l ≤ 13 →
    (∀ q, s.decState.expecting = true → matchMakeup s.decState.color v l = some q →
      Config.within (s.nwPos + q) s.cap.maxRowBits = true →
      ∃ t, exec (.decBit b) s = .next t ∧
        t = { s with
          decState := if s.decState.color = .white then .whiteRunMakeupSeen else .blackRunMakeupSeen
          curVal := 0, curLen := 0, nwPos := s.nwPos + q, pix := t.pix } ∧
        ∀ p, pixBit t p = if s.nwPos ≤ p ∧ p < s.nwPos + q then decide (s.decState.color = .black) else pixBit s p) ∧
    (∀ n, (s.decState.expecting = true → matchMakeup s.decState.color v l = none) →
      matchTerm s.decState.color v l = some n → Config.within (s.nwPos + n) s.cap.maxRowBits = true →
      ∃ t, exec (.decBit b) s = .next t ∧
        t = { s with
          decState := if s.decState.color = .white then .expectingBlackRun else .expectingWhiteRun
          curVal := 0, curLen := 0, nwPos := s.nwPos + n, pix := t.pix } ∧
        ∀ p, pixBit t p = if s.nwPos ≤ p ∧ p < s.nwPos + n then decide (s.decState.color = .black) else pixBit s p)

/-- The fourteenth unmatched bit raises FormatError with the position of the reader. Derived from: 44_decoder.md R111, 60_exceptions.md R129, 60_exceptions.md R132, 10_state.md R17. The model's choice (assumption log 4, 20): the form of the free values, and that the exception is entered the same way outside an operation. -/
def Obligations.FourteenthBitRaisesFormatError : Prop :=
  ∀ (b : Bool) (s : State), s.curLen = 13 →
    ∃ t, exec (.decBit b) s = .next t ∧
      t = { s with
        curVal := t.curVal, curLen := t.curLen, status := 3, errCode := 1, errPos := s.trPos, outLen := 0, busy := none,
        pix := t.pix } ∧
      ∀ a, pixByte t a = Config.freePixByte (s.pix.epoch + 1) a

/-- A run that does not fit in PIX raises CapacityFault before any of its pixels. Derived from: 60_exceptions.md R131, 60_exceptions.md R132, 41_bit_accessors.md R85. The model's choice (assumption log 4, 10, 20, 26): that a run above 2560 pixels that does not fit is turned away like any other, the form of the free values, what a code does when executed by itself, and that the exception is entered the same way outside an operation. -/
def Obligations.RunThatDoesNotFitRaisesCapacityFault : Prop :=
  (∀ (c : Color) (n : Nat) (s : State), Config.within (s.nwPos + n) s.cap.maxRowBits = false →
    ∃ t, exec (.nwWriteRun c n) s = .next t ∧
      t = { s with
        curVal := t.curVal, curLen := t.curLen, status := 3, errCode := 3, errPos := s.trPos, outLen := 0, busy := none,
        pix := t.pix } ∧
      ∀ a, pixByte t a = Config.freePixByte (s.pix.epoch + 1) a) ∧
  (∀ (i : Instr) (r : CodeRef) (c : Color) (n : Nat) (s : State), codeRefOf i = some r →
    (r = .term c n ∨ r = .makeup c n) → r.legalIn s.decState = true → s.curVal = 0 → s.curLen = 0 →
    s.trPos + r.code.len ≤ s.trLim → Config.within (s.nwPos + n) s.cap.maxRowBits = false →
    ∃ t, exec i s = .next t ∧
      t = { s with
        trPos := s.trPos + r.code.len, status := 3, errCode := 3, errPos := s.trPos + r.code.len, outLen := 0,
        busy := none, curVal := t.curVal, curLen := t.curLen, pix := t.pix } ∧
      ∀ a, pixByte t a = Config.freePixByte (s.pix.epoch + 1) a)

/-- Each of the 128 terminating codes WT0 to WT63 and BT0 to BT63 ends a run of its colour. Derived from: 44_decoder.md R107, 44_decoder.md R109, 41_bit_accessors.md R85, 41_bit_accessors.md R81. The model's choice (assumption log 10): what a code does when executed by itself. -/
def Obligations.TerminatingCodeEndsARun : Prop :=
  ∀ (i : Instr) (c : Color) (n : Nat) (s : State), codeRefOf i = some (.term c n) →
    (c = .white → s.decState = .expectingWhiteRun ∨ s.decState = .whiteRunMakeupSeen) →
    (c = .black → s.decState = .expectingBlackRun ∨ s.decState = .blackRunMakeupSeen) →
    s.curVal = 0 → s.curLen = 0 → s.trPos + (termCode c n).len ≤ s.trLim →
    Config.within (s.nwPos + n) s.cap.maxRowBits = true →
    ∃ t, exec i s = .next t ∧
      t = { s with
        decState := if c = .white then .expectingBlackRun else .expectingWhiteRun
        trPos := s.trPos + (termCode c n).len, nwPos := s.nwPos + n, pix := t.pix } ∧
      ∀ p, pixBit t p = if s.nwPos ≤ p ∧ p < s.nwPos + n then decide (c = .black) else pixBit s p

/-- Each of the 80 makeup codes WM64 to WM2560 and BM64 to BM2560 writes its quantum and waits for the rest. Derived from: 44_decoder.md R106, 44_decoder.md R108, 41_bit_accessors.md R85, 41_bit_accessors.md R81. The model's choice (assumption log 10): what a code does when executed by itself. -/
def Obligations.MakeupCodeOpensARun : Prop :=
  ∀ (i : Instr) (c : Color) (q : Nat) (s : State), codeRefOf i = some (.makeup c q) →
    s.decState = (if c = .white then .expectingWhiteRun else .expectingBlackRun) →
    s.curVal = 0 → s.curLen = 0 → s.trPos + (makeupCode c q).len ≤ s.trLim →
    Config.within (s.nwPos + q) s.cap.maxRowBits = true →
    ∃ t, exec i s = .next t ∧
      t = { s with
        decState := if c = .white then .whiteRunMakeupSeen else .blackRunMakeupSeen
        trPos := s.trPos + (makeupCode c q).len, nwPos := s.nwPos + q, pix := t.pix } ∧
      ∀ p, pixBit t p = if s.nwPos ≤ p ∧ p < s.nwPos + q then decide (c = .black) else pixBit s p

/-- EOL at a code boundary leads to EW from every state and keeps every pixel. Derived from: 44_decoder.md R105, 44_decoder.md R119, 90_conflicts.md C3. The model's choice (assumption log 10): what a code does when executed by itself. -/
def Obligations.EolResynchronisesAndKeepsPixels : Prop :=
  ∀ s : State, s.curVal = 0 → s.curLen = 0 → s.trPos + 12 ≤ s.trLim →
    exec .eol s = .next { s with decState := .expectingWhiteRun, trPos := s.trPos + 12 }

/-- Each of the four reserved prefixes ends in FormatError after 14 bits, or with the input. Derived from: 30_encoding.md R58, 44_decoder.md R111, 60_exceptions.md R129, 44_decoder.md R115. The model's choice (assumption log 4, 10, 20): the form of the free values, what a code does when executed by itself, and that the exception is entered the same way outside an operation. -/
def Obligations.ReservedPrefixEndsInFormatError : Prop :=
  ∀ (i : Instr) (p : ReservedPrefix) (s : State), codeRefOf i = some (.reserved p) → s.curVal = 0 → s.curLen = 0 →
    (s.trPos + 14 ≤ s.trLim →
      ∃ t, exec i s = .next t ∧
        t = { s with
          trPos := s.trPos + 14, status := 3, errCode := 1, errPos := s.trPos + 14, outLen := 0, busy := none,
          curVal := t.curVal, curLen := t.curLen, pix := t.pix } ∧
        ∀ a, pixByte t a = Config.freePixByte (s.pix.epoch + 1) a) ∧
    (s.trPos + p.code.len ≤ s.trLim → s.trLim < s.trPos + 14 →
      ∃ t, exec i s = .next t ∧
        t = { s with trPos := s.trLim, curVal := t.curVal, curLen := s.trLim - s.trPos })

/-- DEC.END closes the row, reports its width, and checks it in strict mode only. Rules: R115, R116. -/
def Obligations.DecEndReportsTheWidth : Prop :=
  ∀ s : State, s.busy = some .decodeRow → s.trPos = s.trLim → ∃ t, exec .decEnd s = .next t ∧
    (∀ p, pixBit t p = if s.nwPos ≤ p ∧ p < 8 * ceil8 s.nwPos then false else pixBit s p) ∧
    (s.ctrl = 0 ∨ s.nwPos = s.expWidth → t = { s with outLen := s.nwPos, pix := t.pix }) ∧
    (s.ctrl = 1 → s.nwPos ≠ s.expWidth →
      t = { s with
        outLen := s.nwPos, pix := t.pix, curVal := t.curVal, curLen := t.curLen, status := 3, errCode := 2, errPos := s.trPos,
        busy := none })

/-- A step of DECODE_ROW by strings is the DEC.BIT loop, bit by bit, up to the next empty accumulator. Derived from: 00_scope.md R5, 44_decoder.md R104, 44_decoder.md R117, 92_eei_decisions.md D1. The model's choice (assumption log 1): how much of the loop one step takes. -/
def Obligations.StringStepEqualsBitSteps : Prop :=
  ∀ s : State, s.busy = some .decodeRow → s.trPos < s.trLim → step s = .next (readOn 14 s).state

/-- ENCODE_ROW opens its units and clears ERR, or raises CapacityFault. Derived from: 45_host_commands.md R123, 45_host_commands.md R124, 43_encoder.md R98, 60_exceptions.md R131, 60_exceptions.md R132. The model's choice (assumption log 1, 8, 23): that the instruction is the start of the operation, the field busy, and that the decoder side registers are left alone. -/
def Obligations.EncodeRowStartsOrRaisesCapacityFault : Prop :=
  (∀ s : State, s.busy = none → Config.within s.inLen s.cap.maxRowBits = true →
    exec .encodeRow s = .next { s with
      status := if s.done = true then 1 else 0
      nrPos := 0, nrLim := s.inLen, twPos := 0, curColor := .white, runCnt := 0, busy := some .encodeRow }) ∧
  (∀ s : State, s.busy = none → Config.within s.inLen s.cap.maxRowBits = false →
    ∃ t, exec .encodeRow s = .next t ∧
      t = { s with
        status := 3, errCode := 3, errPos := 0, outLen := 0, curVal := t.curVal, curLen := t.curLen })

/-- DECODE_ROW opens its units and clears ERR, or raises CapacityFault. Derived from: 45_host_commands.md R123, 45_host_commands.md R125, 44_decoder.md R117, 60_exceptions.md R131, 60_exceptions.md R132. The model's choice (assumption log 1, 4, 8, 23): that the instruction is the start of the operation, the form of the free values, the field busy, and that the encoder side registers are left alone. -/
def Obligations.DecodeRowStartsOrRaisesCapacityFault : Prop :=
  (∀ s : State, s.busy = none → Config.within s.inLen s.cap.maxCodeBytes = true →
    exec .decodeRow s = .next { s with
      status := if s.done = true then 1 else 0
      trPos := 0, trLim := 8 * s.inLen, nwPos := 0, decState := .expectingWhiteRun, curVal := 0, curLen := 0
      busy := some .decodeRow }) ∧
  (∀ s : State, s.busy = none → Config.within s.inLen s.cap.maxCodeBytes = false →
    ∃ t, exec .decodeRow s = .next t ∧
      t = { s with
        status := 3, errCode := 3, errPos := 0, outLen := 0, curVal := t.curVal, curLen := t.curLen, pix := t.pix } ∧
      ∀ a, pixByte t a = Config.freePixByte (s.pix.epoch + 1) a)

/-- RD returns the value of each of the eight registers and changes nothing. Rules: R121. -/
def Obligations.RegisterReadsReturnTheRegisters : Prop :=
  ∀ s : State, s.busy = none →
    exec (.rd 0) s = .next { s with ret := .number 0 } ∧
    exec (.rd 1) s = .next { s with ret := .number s.status.toNat } ∧
    exec (.rd 2) s = .next { s with ret := .number s.ctrl.toNat } ∧
    exec (.rd 3) s = .next { s with ret := .number s.inLen } ∧
    exec (.rd 4) s = .next { s with ret := .number s.expWidth } ∧
    exec (.rd 5) s = .next { s with ret := .number s.outLen } ∧
    exec (.rd 6) s = .next { s with ret := .number s.errCode.toNat } ∧
    exec (.rd 7) s = .next { s with ret := .number s.errPos } ∧
    ∀ reg, 7 < reg → exec (.rd reg) s = .refused .noSuchRegister

/-- WR writes CTRL, IN_LEN and EXP_WIDTH, ignores the read-only registers, and WR CMD is the command of bit 0. Derived from: 45_host_commands.md R122, 45_host_commands.md R123, 10_state.md R22, 10_state.md R25. The model's choice (assumption log 21, 22): registers held as natural numbers, and the name of the refusal. -/
def Obligations.RegisterWritesKeepTheWidth : Prop :=
  ∀ (v : Nat) (s : State), s.busy = none →
    (v % 2 = 0 → exec (.wr 0 v) s = exec .encodeRow s) ∧
    (v % 2 = 1 → exec (.wr 0 v) s = exec .decodeRow s) ∧
    exec (.wr 1 v) s = .next s ∧
    exec (.wr 2 v) s = .next { s with ctrl := if v % 2 = 1 then 1 else 0 } ∧
    (∀ kept, (s.cap.lenw = none → kept = v) → (∀ n, s.cap.lenw = some n → kept = v % 2 ^ n) →
      exec (.wr 3 v) s = .next { s with inLen := kept } ∧ exec (.wr 4 v) s = .next { s with expWidth := kept }) ∧
    exec (.wr 5 v) s = .next s ∧ exec (.wr 6 v) s = .next s ∧ exec (.wr 7 v) s = .next s ∧
    ∀ reg, 7 < reg → exec (.wr reg v) s = .refused .noSuchRegister

/-- WRBUF and RDBUF move consecutive bytes of the named memory, and stop outside it. Derived from: 45_host_commands.md R126, 20_memory.md R45, 20_memory.md R47. The model's choice (assumption log 12): the fault outside a memory. -/
def Obligations.BufferAccessMovesBytes : Prop :=
  (∀ (m : MemSel) (a : Nat) (bytes : List Byte) (s : State), s.busy = none →
    Config.within (a + bytes.length) (memSize m s) = true →
    ∃ t, exec (.wrbuf m a bytes) s = .next t ∧ t = { s with pix := t.pix, code := t.code } ∧
      ∀ (m' : MemSel) (x : Nat), memByte m' t x =
        if m' = m ∧ a ≤ x ∧ x < a + bytes.length then bytes.getD (x - a) 0 else memByte m' s x) ∧
  (∀ (m : MemSel) (a n : Nat) (s : State), s.busy = none → Config.within (a + n) (memSize m s) = true →
    exec (.rdbuf m a n) s = .next { s with ret := .bytes ((List.range n).map fun j => memByte m s (a + j)) }) ∧
  (∀ (m : MemSel) (a : Nat) (bytes : List Byte) (n : Nat) (s : State), s.busy = none →
    (bytes ≠ [] → Config.within (a + bytes.length) (memSize m s) = false →
      exec (.wrbuf m a bytes) s = .fault .noSuchAddress) ∧
    (0 < n → Config.within (a + n) (memSize m s) = false → exec (.rdbuf m a n) s = .fault .noSuchAddress))

/-- No host action and no second command runs while an operation runs. Derived from: 20_memory.md R41, 93_implementation_defined.md U16, 45_host_commands.md R123. The model's choice (assumption log 6, 15): the list of actions and the name of the refusal. -/
def Obligations.HostActionsWaitForTheOperation : Prop :=
  (∀ (s : State) (reg v a n : Nat) (m : MemSel) (bytes : List Byte), s.busy ≠ none →
    exec (.rd reg) s = .refused .operationRunning ∧ exec (.wr reg v) s = .refused .operationRunning ∧
    exec (.wrbuf m a bytes) s = .refused .operationRunning ∧ exec (.rdbuf m a n) s = .refused .operationRunning ∧
    exec .encodeRow s = .refused .operationRunning ∧ exec .decodeRow s = .refused .operationRunning) ∧
  (∀ s t : State, s.busy ≠ none → step s = .next t → t.pending = s.pending)

/-- RESET sets every register to its reset value and makes both memories unspecified. Derived from: 70_reset_and_hazards.md R140, 70_reset_and_hazards.md R141. The model's choice (assumption log 4, 14): the form of the free values, and what happens to the fields of the model itself. -/
def Obligations.ResetSetsEveryRegister : Prop :=
  ∀ s : State, ∃ t, exec .reset s = .next t ∧
    t.curColor = .white ∧ t.runCnt = 0 ∧ t.nrPos = 0 ∧ t.nrLim = 0 ∧ t.twPos = 0 ∧
    t.decState = .expectingWhiteRun ∧ t.curVal = 0 ∧ t.curLen = 0 ∧ t.trPos = 0 ∧ t.trLim = 0 ∧ t.nwPos = 0 ∧
    t.status = 0 ∧ t.ctrl = 0 ∧ t.inLen = 0 ∧ t.expWidth = 0 ∧ t.outLen = 0 ∧ t.errCode = 0 ∧ t.errPos = 0 ∧
    (∀ a, pixByte t a = Config.freePixByte (s.pix.epoch + 1) a) ∧
    (∀ a, codeByte t a = Config.freeCodeByte (s.code.epoch + 1) a) ∧
    t.busy = none ∧ t.cap = s.cap ∧ t.pending = s.pending

/-- The state after reset: registers 0, memories unspecified, the block waits. Derived from: 70_reset_and_hazards.md R141, 10_state.md R22. The model's choice (assumption log 4, 19): the form of the free values, and that the idle block stays as it is. -/
def Obligations.ResetStateIsTheSpecifiedOne : Prop :=
  State.reset.curColor = .white ∧ State.reset.runCnt = 0 ∧ State.reset.nrPos = 0 ∧ State.reset.nrLim = 0 ∧
  State.reset.twPos = 0 ∧ State.reset.decState = .expectingWhiteRun ∧ State.reset.curVal = 0 ∧
  State.reset.curLen = 0 ∧ State.reset.trPos = 0 ∧ State.reset.trLim = 0 ∧ State.reset.nwPos = 0 ∧
  (∀ reg, reg < 8 → exec (.rd reg) State.reset = .next { State.reset with ret := .number 0 }) ∧
  (∀ a, pixByte State.reset a = Config.freePixByte 0 a) ∧ (∀ a, codeByte State.reset a = Config.freeCodeByte 0 a) ∧
  step State.reset = .next State.reset

/-- A step executes the instruction decoded at tr_pos, or the host's next action, or waits. Derived from: 44_decoder.md R117, 20_memory.md R42, 92_eei_decisions.md D1. The model's choice (assumption log 1, 6, 19): what one step is. -/
def Obligations.StepRunsTheDecodedInstruction : Prop :=
  (∀ (s : State) (i : Instr) (len : Nat), s.busy = some .decodeRow → s.curVal = 0 → s.curLen = 0 →
    s.trPos < s.trLim →
    decodeBits s.decState ((List.range (min 14 (s.trLim - s.trPos))).map fun j => codeBit s (s.trPos + j)) =
      .instr i len → step s = exec i s) ∧
  (∀ s : State, s.busy = some .encodeRow → s.nrPos < s.nrLim →
    step s = exec (.scanPixel (pixBit s s.nrPos)) { s with nrPos := s.nrPos + 1 }) ∧
  (∀ (s : State) (a : HostAction) (rest : List HostAction), s.busy = none → s.pending = a :: rest →
    step s = exec a.instr { s with pending := rest }) ∧
  (∀ s : State, s.busy = none → s.pending = [] → step s = .next s)

/-- At the end of its input DECODE_ROW ends: normally, or with WidthMismatch in strict mode. Derived from: 44_decoder.md R115, 44_decoder.md R116, 44_decoder.md R117, 45_host_commands.md R123, 60_exceptions.md R130. The model's choice (assumption log 1, 8): what one step is, and the field busy. -/
def Obligations.EndOfInputEndsTheOperation : Prop :=
  ∀ s : State, s.busy = some .decodeRow → s.trPos = s.trLim →
    ∃ t, step s = .next t ∧ t.busy = none ∧ t.outLen = s.nwPos ∧
      (∀ p, pixBit t p = if s.nwPos ≤ p ∧ p < 8 * ceil8 s.nwPos then false else pixBit s p) ∧
      (s.ctrl = 0 ∨ s.nwPos = s.expWidth → t.status = 1 ∧ t.errCode = 0 ∧ t.errPos = 0) ∧
      (s.ctrl = 1 → s.nwPos ≠ s.expWidth → t.status = 3 ∧ t.errCode = 2 ∧ t.errPos = s.trPos) ∧
      t.code = s.code ∧ t.inLen = s.inLen ∧ t.ctrl = s.ctrl ∧ t.expWidth = s.expWidth ∧ t.pending = s.pending

/-- The invariants hold after reset, for every choice of the parameters. Derived from: 70_reset_and_hazards.md R141, 10_state.md R13, 10_state.md R17, 10_state.md R18. The model's choice (assumption log 5, 8): the form of a memory as data, and the field busy. -/
def Obligations.ResetSatisfiesTheInvariants : Prop :=
  ∀ cap : Config.Capacity, Inv (State.resetWith cap) ∧ ResultsAgree (State.resetWith cap) ∧
    EncodeRoom (State.resetWith cap)

/-- Every step keeps memories canonical and in range, positions within limits, and the accumulator within 13 bits. Derived from: 10_state.md R12, 10_state.md R13, 10_state.md R16, 10_state.md R17, 10_state.md R18, 10_state.md R19, 20_memory.md R45. The model's choice (assumption log 5): the form of a memory as data. -/
def Obligations.EveryStepKeepsTheInvariant : Prop :=
  ∀ s t : State, Inv s → step s = .next t → Inv t

/-- Every step keeps STATUS and ERR_CODE in agreement. Derived from: 10_state.md R24, 10_state.md R29, 45_host_commands.md R123, 60_exceptions.md R132. The model's choice (assumption log 8): the field busy. -/
def Obligations.EveryStepKeepsStatusConsistent : Prop :=
  ∀ s t : State, ResultsAgree s → step s = .next t → ResultsAgree t

/-- DONE is cleared by reset and by nothing else. Derived from: 10_state.md R24. The model's choice (assumption log 6): the list of actions. -/
def Obligations.OnlyResetClearsDone : Prop :=
  ∀ s t : State, s.done = true → step s = .next t → t.done = false →
    s.busy = none ∧ s.pending.head? = some .reset

/-- While an operation runs no step writes CTRL, IN_LEN, EXP_WIDTH or the input memory. Derived from: 10_state.md R25, 10_state.md R26, 10_state.md R27, 20_memory.md R46, 60_exceptions.md R132. The model's choice (assumption log 1, 2): what one step is, and the field cap. -/
def Obligations.OperationsLeaveHostRegistersAndTheirInput : Prop :=
  ∀ s t : State, s.busy ≠ none → step s = .next t →
    t.ctrl = s.ctrl ∧ t.inLen = s.inLen ∧ t.expWidth = s.expWidth ∧ t.cap = s.cap ∧
    (s.busy = some .encodeRow → t.pix = s.pix) ∧ (s.busy = some .decodeRow → t.code = s.code)

/-- Under the constraint of R8, ENCODE_ROW never leaves CODE: every one of its steps goes on. Derived from: 43_encoder.md R99, 43_encoder.md R101, 00_scope.md R8. The model's choice (assumption log 1): what one step is. -/
def Obligations.EncodeRowNeverRunsOutOfCode : Prop :=
  ∀ s : State, s.cap.codeHoldsRow = true → s.busy = some .encodeRow → s.nrPos ≤ s.nrLim →
    Config.within s.nrLim s.cap.maxRowBits = true → EncodeRoom s → ∃ t, step s = .next t ∧ EncodeRoom t

/-- ENCODE_ROW as a whole writes the codes of the runs of the row, padded, and nothing else. Derived from: 43_encoder.md R98, 43_encoder.md R101, 45_host_commands.md R124, 20_memory.md R46, 70_reset_and_hazards.md R143. The model's choice (assumption log 1, 6): what one step is, and the list of actions. -/
def Obligations.EncodeRowWritesTheCodesOfTheRow : Prop :=
  ∀ (s : State) (a : HostAction) (rest : List HostAction), s.busy = none → s.pending = a :: rest →
    a.instr = .encodeRow →
    Config.within s.inLen s.cap.maxRowBits = true → s.cap.codeHoldsRow = true →
    ∃ t, Host.Core.run core (s.inLen + 2) s = .next t ∧ t.busy = none ∧ t.pending = rest ∧
      t.status = 1 ∧ t.errCode = 0 ∧ t.errPos = 0 ∧
      t.outLen = ceil8 (rowBits (rowPixels s s.inLen)).length ∧
      (∀ p, p < 8 * t.outLen → codeBit t p = (rowBits (rowPixels s s.inLen)).getD p false) ∧
      (∀ a, t.outLen ≤ a → codeByte t a = codeByte s a) ∧
      t.pix = s.pix ∧ t.ctrl = s.ctrl ∧ t.inLen = s.inLen ∧ t.expWidth = s.expWidth

/-- DECODE_ROW ends on every input, within one step for each bit left and one more. Derived from: 70_reset_and_hazards.md R143, 44_decoder.md R117, 60_exceptions.md R128. The model's choice (assumption log 1, 6): what one step is, and the list of actions. -/
def Obligations.DecodeRowEnds : Prop :=
  ∀ s : State, s.busy = some .decodeRow → s.trPos ≤ s.trLim →
    ∃ (k : Nat) (t : State), k ≤ s.trLim - s.trPos + 1 ∧ Host.Core.run core k s = .next t ∧ t.busy = none ∧
      t.done = true ∧ (t.err = true ↔ t.errCode ≠ 0) ∧ t.pending = s.pending

/-- The result of DECODE_ROW is a function of its input bytes, IN_LEN, CTRL, EXP_WIDTH and the parameters. Derived from: 10_state.md R20, 60_exceptions.md R135, 44_decoder.md R117. The model's choice (assumption log 1, 6): what one step is, and the list of actions. -/
def Obligations.DecodeRowDependsOnItsInputsOnly : Prop :=
  ∀ (s s' t : State) (k : Nat), AboutToRun .decodeRow s → AboutToRun .decodeRow s' → SameDecodeInputs s s' → 0 < k →
    Host.Core.run core k s = .next t → t.busy = none →
    ∃ t', Host.Core.run core k s' = .next t' ∧ t'.busy = none ∧ t'.status = t.status ∧ t'.outLen = t.outLen ∧
      t'.errCode = t.errCode ∧ t'.errPos = t.errPos ∧
      (t.errCode = 0 ∨ t.errCode = 2 → ∀ p, p < t.outLen → pixBit t' p = pixBit t p)

/-- Decoding what ENCODE_ROW wrote gives the row back, for every round-trip row. Derived from: 44_decoder.md R120, 43_encoder.md R97. The model's choice (assumption log 1, 6): what one step is, so that ENCODE_ROW takes IN_LEN + 2 of them, and the list of actions. -/
def Obligations.RowsRoundTrip : Prop :=
  ∀ s : State, AboutToRun .encodeRow s → Config.within s.inLen s.cap.maxRowBits = true → s.cap.codeHoldsRow = true →
    (∀ run ∈ maximalRuns (rowPixels s s.inLen), run.2 ≤ 2623) →
    ∃ (t u : State) (k : Nat), Host.Core.run core (s.inLen + 2) s = .next t ∧ t.busy = none ∧ t.errCode = 0 ∧
      Host.Core.run core k { t with inLen := t.outLen, ctrl := 0, pending := [.wr 0 1] } = .next u ∧
      u.busy = none ∧ u.pending = [] ∧ u.status = 1 ∧ u.errCode = 0 ∧ u.errPos = 0 ∧ u.outLen = s.inLen ∧
      (∀ p, p < s.inLen → pixBit u p = pixBit s p) ∧
      (∀ p, s.inLen ≤ p → p < 8 * ceil8 s.inLen → pixBit u p = false)

/-- The host has RD, WR, WRBUF, RDBUF and RESET, and only commands and RESET reach the units or the results. Derived from: 45_host_commands.md R127, 45_host_commands.md R121, 45_host_commands.md R122, 45_host_commands.md R126, 70_reset_and_hazards.md R140, 30_encoding.md R60. The model's choice (assumption log 6, 13): the list of actions, and that a write to CMD runs as the instruction it decodes to. -/
def Obligations.HostActionsAreTheFiveKinds : Prop :=
  (∀ a : HostAction,
    (∃ reg, a.instr = .rd reg) ∨ (∃ reg v, 0 < reg ∧ a.instr = .wr reg v) ∨ a.instr = .encodeRow ∨
      a.instr = .decodeRow ∨ (∃ m x bytes, a.instr = .wrbuf m x bytes) ∨ (∃ m x n, a.instr = .rdbuf m x n) ∨
      a.instr = .reset) ∧
  (∀ (s t : State) (a : HostAction) (rest : List HostAction), s.busy = none → s.pending = a :: rest →
    step s = .next t →
    t.pending = rest ∧ t.cap = s.cap ∧
    (a.instr ≠ .encodeRow → a.instr ≠ .decodeRow → a.instr ≠ .reset →
      t = { s with
        ctrl := t.ctrl, inLen := t.inLen, expWidth := t.expWidth, pix := t.pix, code := t.code, ret := t.ret,
        pending := rest }))

/-- Reads, writes and opens with operands outside their range run, with one free value each, and do all else. Derived from: 41_bit_accessors.md R72, 41_bit_accessors.md R74, 41_bit_accessors.md R77, 41_bit_accessors.md R80, 41_bit_accessors.md R82, 10_state.md R13, 10_state.md R18, 93_implementation_defined.md U17. The model's choice (assumption log 11, 12): that these operations run, which of their values are free, and the fault past the end of CODE. -/
def Obligations.OperandsOutsideTheirRangeStillRun : Prop :=
  (∀ (w : Nat) (s : State), Config.within w s.cap.maxRowBits = false →
    ∃ lim, exec (.nrOpen w) s = .next { s with nrPos := 0, nrLim := lim, freeCount := s.freeCount + 1 } ∧
      Config.within lim s.cap.maxRowBits = true) ∧
  (∀ (m : Nat) (s : State), Config.within m s.cap.maxCodeBytes = false →
    ∃ len, exec (.trOpen m) s = .next { s with trPos := 0, trLim := 8 * len, freeCount := s.freeCount + 1 } ∧
      Config.within len s.cap.maxCodeBytes = true) ∧
  (∀ (k : Nat) (s : State), (k = 0 ∨ 13 < k) →
    (s.nrPos + k ≤ s.nrLim → ∃ v, v < 2 ^ k ∧
      exec (.nrRead k) s = .next { s with
        nrPos := s.nrPos + k, freeCount := s.freeCount + 1, ret := .number v }) ∧
    (s.nrLim < s.nrPos + k → exec (.nrRead k) s = .refused .notEnabled) ∧
    (s.trPos + k ≤ s.trLim → ∃ v, v < 2 ^ k ∧
      exec (.trRead k) s = .next { s with
        trPos := s.trPos + k, freeCount := s.freeCount + 1, ret := .number v }) ∧
    (s.trLim < s.trPos + k → exec (.trRead k) s = .refused .notEnabled)) ∧
  (∀ (v : BitVec 13) (k : Nat) (s : State), (k = 0 ∨ 13 < k ∨ 2 ^ k ≤ v.toNat) →
    (twRoom k s = true →
      ∃ t, exec (.twWrite v k) s = .next t ∧
        t = { s with twPos := s.twPos + k, freeCount := s.freeCount + 1, code := t.code } ∧
        ∀ p, ¬(s.twPos ≤ p ∧ p < s.twPos + k) → codeBit t p = codeBit s p) ∧
    (twRoom k s = false → exec (.twWrite v k) s = .fault .noSuchAddress))
end

