-- ==== Sys2Proof/Laws/HostActions.lean ====
section
/-! SUPPORT. The instruction of each host action, so that no proof unfolds `HostAction.instr`. -/

namespace Sys2Proof.Machine

@[simp] theorem HostAction.instr_rd (reg : Nat) : (HostAction.rd reg).instr = .rd reg := rfl
@[simp] theorem HostAction.instr_wr_cmd (v : Nat) : (HostAction.wr 0 v).instr = decodeCmd v := rfl
@[simp] theorem HostAction.instr_wr_succ (reg v : Nat) : (HostAction.wr (reg + 1) v).instr = .wr (reg + 1) v := rfl
@[simp] theorem HostAction.instr_wrbuf (m : MemSel) (x : Nat) (bytes : List Byte) :
    (HostAction.wrbuf m x bytes).instr = .wrbuf m x bytes := rfl
@[simp] theorem HostAction.instr_rdbuf (m : MemSel) (x n : Nat) : (HostAction.rdbuf m x n).instr = .rdbuf m x n := rfl
@[simp] theorem HostAction.instr_reset : HostAction.reset.instr = .reset := rfl

end Sys2Proof.Machine
end

