-- ==== Sys2Proof/Laws/State.lean ====
section
/-! SUPPORT. What each named update of State does to each field, so that no proof unfolds a record update. -/

namespace Sys2Proof.Machine

@[simp] theorem nrOpen_curColor (w : Nat) (s : State) : (nrOpen w s).curColor = s.curColor := rfl
@[simp] theorem nrOpen_runCnt (w : Nat) (s : State) : (nrOpen w s).runCnt = s.runCnt := rfl
@[simp] theorem nrOpen_nrPos (w : Nat) (s : State) : (nrOpen w s).nrPos = 0 := rfl
@[simp] theorem nrOpen_nrLim (w : Nat) (s : State) : (nrOpen w s).nrLim = w := rfl
@[simp] theorem nrOpen_twPos (w : Nat) (s : State) : (nrOpen w s).twPos = s.twPos := rfl
@[simp] theorem nrOpen_decState (w : Nat) (s : State) : (nrOpen w s).decState = s.decState := rfl
@[simp] theorem nrOpen_curVal (w : Nat) (s : State) : (nrOpen w s).curVal = s.curVal := rfl
@[simp] theorem nrOpen_curLen (w : Nat) (s : State) : (nrOpen w s).curLen = s.curLen := rfl
@[simp] theorem nrOpen_trPos (w : Nat) (s : State) : (nrOpen w s).trPos = s.trPos := rfl
@[simp] theorem nrOpen_trLim (w : Nat) (s : State) : (nrOpen w s).trLim = s.trLim := rfl
@[simp] theorem nrOpen_nwPos (w : Nat) (s : State) : (nrOpen w s).nwPos = s.nwPos := rfl
@[simp] theorem nrOpen_status (w : Nat) (s : State) : (nrOpen w s).status = s.status := rfl
@[simp] theorem nrOpen_ctrl (w : Nat) (s : State) : (nrOpen w s).ctrl = s.ctrl := rfl
@[simp] theorem nrOpen_inLen (w : Nat) (s : State) : (nrOpen w s).inLen = s.inLen := rfl
@[simp] theorem nrOpen_expWidth (w : Nat) (s : State) : (nrOpen w s).expWidth = s.expWidth := rfl
@[simp] theorem nrOpen_outLen (w : Nat) (s : State) : (nrOpen w s).outLen = s.outLen := rfl
@[simp] theorem nrOpen_errCode (w : Nat) (s : State) : (nrOpen w s).errCode = s.errCode := rfl
@[simp] theorem nrOpen_errPos (w : Nat) (s : State) : (nrOpen w s).errPos = s.errPos := rfl
@[simp] theorem nrOpen_pix (w : Nat) (s : State) : (nrOpen w s).pix = s.pix := rfl
@[simp] theorem nrOpen_code (w : Nat) (s : State) : (nrOpen w s).code = s.code := rfl
@[simp] theorem nrOpen_cap (w : Nat) (s : State) : (nrOpen w s).cap = s.cap := rfl
@[simp] theorem nrOpen_busy (w : Nat) (s : State) : (nrOpen w s).busy = s.busy := rfl
@[simp] theorem nrOpen_pending (w : Nat) (s : State) : (nrOpen w s).pending = s.pending := rfl
@[simp] theorem nrOpen_ret (w : Nat) (s : State) : (nrOpen w s).ret = s.ret := rfl
@[simp] theorem nrOpen_freeCount (w : Nat) (s : State) : (nrOpen w s).freeCount = s.freeCount := rfl

@[simp] theorem nrAdvance_curColor (k : Nat) (s : State) : (nrAdvance k s).curColor = s.curColor := rfl
@[simp] theorem nrAdvance_runCnt (k : Nat) (s : State) : (nrAdvance k s).runCnt = s.runCnt := rfl
@[simp] theorem nrAdvance_nrPos (k : Nat) (s : State) : (nrAdvance k s).nrPos = s.nrPos + k := rfl
@[simp] theorem nrAdvance_nrLim (k : Nat) (s : State) : (nrAdvance k s).nrLim = s.nrLim := rfl
@[simp] theorem nrAdvance_twPos (k : Nat) (s : State) : (nrAdvance k s).twPos = s.twPos := rfl
@[simp] theorem nrAdvance_decState (k : Nat) (s : State) : (nrAdvance k s).decState = s.decState := rfl
@[simp] theorem nrAdvance_curVal (k : Nat) (s : State) : (nrAdvance k s).curVal = s.curVal := rfl
@[simp] theorem nrAdvance_curLen (k : Nat) (s : State) : (nrAdvance k s).curLen = s.curLen := rfl
@[simp] theorem nrAdvance_trPos (k : Nat) (s : State) : (nrAdvance k s).trPos = s.trPos := rfl
@[simp] theorem nrAdvance_trLim (k : Nat) (s : State) : (nrAdvance k s).trLim = s.trLim := rfl
@[simp] theorem nrAdvance_nwPos (k : Nat) (s : State) : (nrAdvance k s).nwPos = s.nwPos := rfl
@[simp] theorem nrAdvance_status (k : Nat) (s : State) : (nrAdvance k s).status = s.status := rfl
@[simp] theorem nrAdvance_ctrl (k : Nat) (s : State) : (nrAdvance k s).ctrl = s.ctrl := rfl
@[simp] theorem nrAdvance_inLen (k : Nat) (s : State) : (nrAdvance k s).inLen = s.inLen := rfl
@[simp] theorem nrAdvance_expWidth (k : Nat) (s : State) : (nrAdvance k s).expWidth = s.expWidth := rfl
@[simp] theorem nrAdvance_outLen (k : Nat) (s : State) : (nrAdvance k s).outLen = s.outLen := rfl
@[simp] theorem nrAdvance_errCode (k : Nat) (s : State) : (nrAdvance k s).errCode = s.errCode := rfl
@[simp] theorem nrAdvance_errPos (k : Nat) (s : State) : (nrAdvance k s).errPos = s.errPos := rfl
@[simp] theorem nrAdvance_pix (k : Nat) (s : State) : (nrAdvance k s).pix = s.pix := rfl
@[simp] theorem nrAdvance_code (k : Nat) (s : State) : (nrAdvance k s).code = s.code := rfl
@[simp] theorem nrAdvance_cap (k : Nat) (s : State) : (nrAdvance k s).cap = s.cap := rfl
@[simp] theorem nrAdvance_busy (k : Nat) (s : State) : (nrAdvance k s).busy = s.busy := rfl
@[simp] theorem nrAdvance_pending (k : Nat) (s : State) : (nrAdvance k s).pending = s.pending := rfl
@[simp] theorem nrAdvance_ret (k : Nat) (s : State) : (nrAdvance k s).ret = s.ret := rfl
@[simp] theorem nrAdvance_freeCount (k : Nat) (s : State) : (nrAdvance k s).freeCount = s.freeCount := rfl

@[simp] theorem twOpen_curColor (s : State) : (twOpen s).curColor = s.curColor := rfl
@[simp] theorem twOpen_runCnt (s : State) : (twOpen s).runCnt = s.runCnt := rfl
@[simp] theorem twOpen_nrPos (s : State) : (twOpen s).nrPos = s.nrPos := rfl
@[simp] theorem twOpen_nrLim (s : State) : (twOpen s).nrLim = s.nrLim := rfl
@[simp] theorem twOpen_twPos (s : State) : (twOpen s).twPos = 0 := rfl
@[simp] theorem twOpen_decState (s : State) : (twOpen s).decState = s.decState := rfl
@[simp] theorem twOpen_curVal (s : State) : (twOpen s).curVal = s.curVal := rfl
@[simp] theorem twOpen_curLen (s : State) : (twOpen s).curLen = s.curLen := rfl
@[simp] theorem twOpen_trPos (s : State) : (twOpen s).trPos = s.trPos := rfl
@[simp] theorem twOpen_trLim (s : State) : (twOpen s).trLim = s.trLim := rfl
@[simp] theorem twOpen_nwPos (s : State) : (twOpen s).nwPos = s.nwPos := rfl
@[simp] theorem twOpen_status (s : State) : (twOpen s).status = s.status := rfl
@[simp] theorem twOpen_ctrl (s : State) : (twOpen s).ctrl = s.ctrl := rfl
@[simp] theorem twOpen_inLen (s : State) : (twOpen s).inLen = s.inLen := rfl
@[simp] theorem twOpen_expWidth (s : State) : (twOpen s).expWidth = s.expWidth := rfl
@[simp] theorem twOpen_outLen (s : State) : (twOpen s).outLen = s.outLen := rfl
@[simp] theorem twOpen_errCode (s : State) : (twOpen s).errCode = s.errCode := rfl
@[simp] theorem twOpen_errPos (s : State) : (twOpen s).errPos = s.errPos := rfl
@[simp] theorem twOpen_pix (s : State) : (twOpen s).pix = s.pix := rfl
@[simp] theorem twOpen_code (s : State) : (twOpen s).code = s.code := rfl
@[simp] theorem twOpen_cap (s : State) : (twOpen s).cap = s.cap := rfl
@[simp] theorem twOpen_busy (s : State) : (twOpen s).busy = s.busy := rfl
@[simp] theorem twOpen_pending (s : State) : (twOpen s).pending = s.pending := rfl
@[simp] theorem twOpen_ret (s : State) : (twOpen s).ret = s.ret := rfl
@[simp] theorem twOpen_freeCount (s : State) : (twOpen s).freeCount = s.freeCount := rfl

@[simp] theorem trOpen_curColor (m : Nat) (s : State) : (trOpen m s).curColor = s.curColor := rfl
@[simp] theorem trOpen_runCnt (m : Nat) (s : State) : (trOpen m s).runCnt = s.runCnt := rfl
@[simp] theorem trOpen_nrPos (m : Nat) (s : State) : (trOpen m s).nrPos = s.nrPos := rfl
@[simp] theorem trOpen_nrLim (m : Nat) (s : State) : (trOpen m s).nrLim = s.nrLim := rfl
@[simp] theorem trOpen_twPos (m : Nat) (s : State) : (trOpen m s).twPos = s.twPos := rfl
@[simp] theorem trOpen_decState (m : Nat) (s : State) : (trOpen m s).decState = s.decState := rfl
@[simp] theorem trOpen_curVal (m : Nat) (s : State) : (trOpen m s).curVal = s.curVal := rfl
@[simp] theorem trOpen_curLen (m : Nat) (s : State) : (trOpen m s).curLen = s.curLen := rfl
@[simp] theorem trOpen_trPos (m : Nat) (s : State) : (trOpen m s).trPos = 0 := rfl
@[simp] theorem trOpen_trLim (m : Nat) (s : State) : (trOpen m s).trLim = 8 * m := rfl
@[simp] theorem trOpen_nwPos (m : Nat) (s : State) : (trOpen m s).nwPos = s.nwPos := rfl
@[simp] theorem trOpen_status (m : Nat) (s : State) : (trOpen m s).status = s.status := rfl
@[simp] theorem trOpen_ctrl (m : Nat) (s : State) : (trOpen m s).ctrl = s.ctrl := rfl
@[simp] theorem trOpen_inLen (m : Nat) (s : State) : (trOpen m s).inLen = s.inLen := rfl
@[simp] theorem trOpen_expWidth (m : Nat) (s : State) : (trOpen m s).expWidth = s.expWidth := rfl
@[simp] theorem trOpen_outLen (m : Nat) (s : State) : (trOpen m s).outLen = s.outLen := rfl
@[simp] theorem trOpen_errCode (m : Nat) (s : State) : (trOpen m s).errCode = s.errCode := rfl
@[simp] theorem trOpen_errPos (m : Nat) (s : State) : (trOpen m s).errPos = s.errPos := rfl
@[simp] theorem trOpen_pix (m : Nat) (s : State) : (trOpen m s).pix = s.pix := rfl
@[simp] theorem trOpen_code (m : Nat) (s : State) : (trOpen m s).code = s.code := rfl
@[simp] theorem trOpen_cap (m : Nat) (s : State) : (trOpen m s).cap = s.cap := rfl
@[simp] theorem trOpen_busy (m : Nat) (s : State) : (trOpen m s).busy = s.busy := rfl
@[simp] theorem trOpen_pending (m : Nat) (s : State) : (trOpen m s).pending = s.pending := rfl
@[simp] theorem trOpen_ret (m : Nat) (s : State) : (trOpen m s).ret = s.ret := rfl
@[simp] theorem trOpen_freeCount (m : Nat) (s : State) : (trOpen m s).freeCount = s.freeCount := rfl

@[simp] theorem trAdvance_curColor (k : Nat) (s : State) : (trAdvance k s).curColor = s.curColor := rfl
@[simp] theorem trAdvance_runCnt (k : Nat) (s : State) : (trAdvance k s).runCnt = s.runCnt := rfl
@[simp] theorem trAdvance_nrPos (k : Nat) (s : State) : (trAdvance k s).nrPos = s.nrPos := rfl
@[simp] theorem trAdvance_nrLim (k : Nat) (s : State) : (trAdvance k s).nrLim = s.nrLim := rfl
@[simp] theorem trAdvance_twPos (k : Nat) (s : State) : (trAdvance k s).twPos = s.twPos := rfl
@[simp] theorem trAdvance_decState (k : Nat) (s : State) : (trAdvance k s).decState = s.decState := rfl
@[simp] theorem trAdvance_curVal (k : Nat) (s : State) : (trAdvance k s).curVal = s.curVal := rfl
@[simp] theorem trAdvance_curLen (k : Nat) (s : State) : (trAdvance k s).curLen = s.curLen := rfl
@[simp] theorem trAdvance_trPos (k : Nat) (s : State) : (trAdvance k s).trPos = s.trPos + k := rfl
@[simp] theorem trAdvance_trLim (k : Nat) (s : State) : (trAdvance k s).trLim = s.trLim := rfl
@[simp] theorem trAdvance_nwPos (k : Nat) (s : State) : (trAdvance k s).nwPos = s.nwPos := rfl
@[simp] theorem trAdvance_status (k : Nat) (s : State) : (trAdvance k s).status = s.status := rfl
@[simp] theorem trAdvance_ctrl (k : Nat) (s : State) : (trAdvance k s).ctrl = s.ctrl := rfl
@[simp] theorem trAdvance_inLen (k : Nat) (s : State) : (trAdvance k s).inLen = s.inLen := rfl
@[simp] theorem trAdvance_expWidth (k : Nat) (s : State) : (trAdvance k s).expWidth = s.expWidth := rfl
@[simp] theorem trAdvance_outLen (k : Nat) (s : State) : (trAdvance k s).outLen = s.outLen := rfl
@[simp] theorem trAdvance_errCode (k : Nat) (s : State) : (trAdvance k s).errCode = s.errCode := rfl
@[simp] theorem trAdvance_errPos (k : Nat) (s : State) : (trAdvance k s).errPos = s.errPos := rfl
@[simp] theorem trAdvance_pix (k : Nat) (s : State) : (trAdvance k s).pix = s.pix := rfl
@[simp] theorem trAdvance_code (k : Nat) (s : State) : (trAdvance k s).code = s.code := rfl
@[simp] theorem trAdvance_cap (k : Nat) (s : State) : (trAdvance k s).cap = s.cap := rfl
@[simp] theorem trAdvance_busy (k : Nat) (s : State) : (trAdvance k s).busy = s.busy := rfl
@[simp] theorem trAdvance_pending (k : Nat) (s : State) : (trAdvance k s).pending = s.pending := rfl
@[simp] theorem trAdvance_ret (k : Nat) (s : State) : (trAdvance k s).ret = s.ret := rfl
@[simp] theorem trAdvance_freeCount (k : Nat) (s : State) : (trAdvance k s).freeCount = s.freeCount := rfl

@[simp] theorem nwOpen_curColor (s : State) : (nwOpen s).curColor = s.curColor := rfl
@[simp] theorem nwOpen_runCnt (s : State) : (nwOpen s).runCnt = s.runCnt := rfl
@[simp] theorem nwOpen_nrPos (s : State) : (nwOpen s).nrPos = s.nrPos := rfl
@[simp] theorem nwOpen_nrLim (s : State) : (nwOpen s).nrLim = s.nrLim := rfl
@[simp] theorem nwOpen_twPos (s : State) : (nwOpen s).twPos = s.twPos := rfl
@[simp] theorem nwOpen_decState (s : State) : (nwOpen s).decState = s.decState := rfl
@[simp] theorem nwOpen_curVal (s : State) : (nwOpen s).curVal = s.curVal := rfl
@[simp] theorem nwOpen_curLen (s : State) : (nwOpen s).curLen = s.curLen := rfl
@[simp] theorem nwOpen_trPos (s : State) : (nwOpen s).trPos = s.trPos := rfl
@[simp] theorem nwOpen_trLim (s : State) : (nwOpen s).trLim = s.trLim := rfl
@[simp] theorem nwOpen_nwPos (s : State) : (nwOpen s).nwPos = 0 := rfl
@[simp] theorem nwOpen_status (s : State) : (nwOpen s).status = s.status := rfl
@[simp] theorem nwOpen_ctrl (s : State) : (nwOpen s).ctrl = s.ctrl := rfl
@[simp] theorem nwOpen_inLen (s : State) : (nwOpen s).inLen = s.inLen := rfl
@[simp] theorem nwOpen_expWidth (s : State) : (nwOpen s).expWidth = s.expWidth := rfl
@[simp] theorem nwOpen_outLen (s : State) : (nwOpen s).outLen = s.outLen := rfl
@[simp] theorem nwOpen_errCode (s : State) : (nwOpen s).errCode = s.errCode := rfl
@[simp] theorem nwOpen_errPos (s : State) : (nwOpen s).errPos = s.errPos := rfl
@[simp] theorem nwOpen_pix (s : State) : (nwOpen s).pix = s.pix := rfl
@[simp] theorem nwOpen_code (s : State) : (nwOpen s).code = s.code := rfl
@[simp] theorem nwOpen_cap (s : State) : (nwOpen s).cap = s.cap := rfl
@[simp] theorem nwOpen_busy (s : State) : (nwOpen s).busy = s.busy := rfl
@[simp] theorem nwOpen_pending (s : State) : (nwOpen s).pending = s.pending := rfl
@[simp] theorem nwOpen_ret (s : State) : (nwOpen s).ret = s.ret := rfl
@[simp] theorem nwOpen_freeCount (s : State) : (nwOpen s).freeCount = s.freeCount := rfl

@[simp] theorem scanInit_curColor (s : State) : (scanInit s).curColor = .white := rfl
@[simp] theorem scanInit_runCnt (s : State) : (scanInit s).runCnt = 0 := rfl
@[simp] theorem scanInit_nrPos (s : State) : (scanInit s).nrPos = s.nrPos := rfl
@[simp] theorem scanInit_nrLim (s : State) : (scanInit s).nrLim = s.nrLim := rfl
@[simp] theorem scanInit_twPos (s : State) : (scanInit s).twPos = s.twPos := rfl
@[simp] theorem scanInit_decState (s : State) : (scanInit s).decState = s.decState := rfl
@[simp] theorem scanInit_curVal (s : State) : (scanInit s).curVal = s.curVal := rfl
@[simp] theorem scanInit_curLen (s : State) : (scanInit s).curLen = s.curLen := rfl
@[simp] theorem scanInit_trPos (s : State) : (scanInit s).trPos = s.trPos := rfl
@[simp] theorem scanInit_trLim (s : State) : (scanInit s).trLim = s.trLim := rfl
@[simp] theorem scanInit_nwPos (s : State) : (scanInit s).nwPos = s.nwPos := rfl
@[simp] theorem scanInit_status (s : State) : (scanInit s).status = s.status := rfl
@[simp] theorem scanInit_ctrl (s : State) : (scanInit s).ctrl = s.ctrl := rfl
@[simp] theorem scanInit_inLen (s : State) : (scanInit s).inLen = s.inLen := rfl
@[simp] theorem scanInit_expWidth (s : State) : (scanInit s).expWidth = s.expWidth := rfl
@[simp] theorem scanInit_outLen (s : State) : (scanInit s).outLen = s.outLen := rfl
@[simp] theorem scanInit_errCode (s : State) : (scanInit s).errCode = s.errCode := rfl
@[simp] theorem scanInit_errPos (s : State) : (scanInit s).errPos = s.errPos := rfl
@[simp] theorem scanInit_pix (s : State) : (scanInit s).pix = s.pix := rfl
@[simp] theorem scanInit_code (s : State) : (scanInit s).code = s.code := rfl
@[simp] theorem scanInit_cap (s : State) : (scanInit s).cap = s.cap := rfl
@[simp] theorem scanInit_busy (s : State) : (scanInit s).busy = s.busy := rfl
@[simp] theorem scanInit_pending (s : State) : (scanInit s).pending = s.pending := rfl
@[simp] theorem scanInit_ret (s : State) : (scanInit s).ret = s.ret := rfl
@[simp] theorem scanInit_freeCount (s : State) : (scanInit s).freeCount = s.freeCount := rfl

@[simp] theorem countPixel_curColor (s : State) : (countPixel s).curColor = s.curColor := rfl
@[simp] theorem countPixel_runCnt (s : State) : (countPixel s).runCnt = s.runCnt + 1 := rfl
@[simp] theorem countPixel_nrPos (s : State) : (countPixel s).nrPos = s.nrPos := rfl
@[simp] theorem countPixel_nrLim (s : State) : (countPixel s).nrLim = s.nrLim := rfl
@[simp] theorem countPixel_twPos (s : State) : (countPixel s).twPos = s.twPos := rfl
@[simp] theorem countPixel_decState (s : State) : (countPixel s).decState = s.decState := rfl
@[simp] theorem countPixel_curVal (s : State) : (countPixel s).curVal = s.curVal := rfl
@[simp] theorem countPixel_curLen (s : State) : (countPixel s).curLen = s.curLen := rfl
@[simp] theorem countPixel_trPos (s : State) : (countPixel s).trPos = s.trPos := rfl
@[simp] theorem countPixel_trLim (s : State) : (countPixel s).trLim = s.trLim := rfl
@[simp] theorem countPixel_nwPos (s : State) : (countPixel s).nwPos = s.nwPos := rfl
@[simp] theorem countPixel_status (s : State) : (countPixel s).status = s.status := rfl
@[simp] theorem countPixel_ctrl (s : State) : (countPixel s).ctrl = s.ctrl := rfl
@[simp] theorem countPixel_inLen (s : State) : (countPixel s).inLen = s.inLen := rfl
@[simp] theorem countPixel_expWidth (s : State) : (countPixel s).expWidth = s.expWidth := rfl
@[simp] theorem countPixel_outLen (s : State) : (countPixel s).outLen = s.outLen := rfl
@[simp] theorem countPixel_errCode (s : State) : (countPixel s).errCode = s.errCode := rfl
@[simp] theorem countPixel_errPos (s : State) : (countPixel s).errPos = s.errPos := rfl
@[simp] theorem countPixel_pix (s : State) : (countPixel s).pix = s.pix := rfl
@[simp] theorem countPixel_code (s : State) : (countPixel s).code = s.code := rfl
@[simp] theorem countPixel_cap (s : State) : (countPixel s).cap = s.cap := rfl
@[simp] theorem countPixel_busy (s : State) : (countPixel s).busy = s.busy := rfl
@[simp] theorem countPixel_pending (s : State) : (countPixel s).pending = s.pending := rfl
@[simp] theorem countPixel_ret (s : State) : (countPixel s).ret = s.ret := rfl
@[simp] theorem countPixel_freeCount (s : State) : (countPixel s).freeCount = s.freeCount := rfl

@[simp] theorem clearAcc_curColor (s : State) : (clearAcc s).curColor = s.curColor := rfl
@[simp] theorem clearAcc_runCnt (s : State) : (clearAcc s).runCnt = s.runCnt := rfl
@[simp] theorem clearAcc_nrPos (s : State) : (clearAcc s).nrPos = s.nrPos := rfl
@[simp] theorem clearAcc_nrLim (s : State) : (clearAcc s).nrLim = s.nrLim := rfl
@[simp] theorem clearAcc_twPos (s : State) : (clearAcc s).twPos = s.twPos := rfl
@[simp] theorem clearAcc_decState (s : State) : (clearAcc s).decState = s.decState := rfl
@[simp] theorem clearAcc_curVal (s : State) : (clearAcc s).curVal = 0 := rfl
@[simp] theorem clearAcc_curLen (s : State) : (clearAcc s).curLen = 0 := rfl
@[simp] theorem clearAcc_trPos (s : State) : (clearAcc s).trPos = s.trPos := rfl
@[simp] theorem clearAcc_trLim (s : State) : (clearAcc s).trLim = s.trLim := rfl
@[simp] theorem clearAcc_nwPos (s : State) : (clearAcc s).nwPos = s.nwPos := rfl
@[simp] theorem clearAcc_status (s : State) : (clearAcc s).status = s.status := rfl
@[simp] theorem clearAcc_ctrl (s : State) : (clearAcc s).ctrl = s.ctrl := rfl
@[simp] theorem clearAcc_inLen (s : State) : (clearAcc s).inLen = s.inLen := rfl
@[simp] theorem clearAcc_expWidth (s : State) : (clearAcc s).expWidth = s.expWidth := rfl
@[simp] theorem clearAcc_outLen (s : State) : (clearAcc s).outLen = s.outLen := rfl
@[simp] theorem clearAcc_errCode (s : State) : (clearAcc s).errCode = s.errCode := rfl
@[simp] theorem clearAcc_errPos (s : State) : (clearAcc s).errPos = s.errPos := rfl
@[simp] theorem clearAcc_pix (s : State) : (clearAcc s).pix = s.pix := rfl
@[simp] theorem clearAcc_code (s : State) : (clearAcc s).code = s.code := rfl
@[simp] theorem clearAcc_cap (s : State) : (clearAcc s).cap = s.cap := rfl
@[simp] theorem clearAcc_busy (s : State) : (clearAcc s).busy = s.busy := rfl
@[simp] theorem clearAcc_pending (s : State) : (clearAcc s).pending = s.pending := rfl
@[simp] theorem clearAcc_ret (s : State) : (clearAcc s).ret = s.ret := rfl
@[simp] theorem clearAcc_freeCount (s : State) : (clearAcc s).freeCount = s.freeCount := rfl

@[simp] theorem shiftIn_curColor (b : Bool) (s : State) : (shiftIn b s).curColor = s.curColor := rfl
@[simp] theorem shiftIn_runCnt (b : Bool) (s : State) : (shiftIn b s).runCnt = s.runCnt := rfl
@[simp] theorem shiftIn_nrPos (b : Bool) (s : State) : (shiftIn b s).nrPos = s.nrPos := rfl
@[simp] theorem shiftIn_nrLim (b : Bool) (s : State) : (shiftIn b s).nrLim = s.nrLim := rfl
@[simp] theorem shiftIn_twPos (b : Bool) (s : State) : (shiftIn b s).twPos = s.twPos := rfl
@[simp] theorem shiftIn_decState (b : Bool) (s : State) : (shiftIn b s).decState = s.decState := rfl
@[simp] theorem shiftIn_curVal (b : Bool) (s : State) : (shiftIn b s).curVal = shiftBit s.curVal b := rfl
@[simp] theorem shiftIn_curLen (b : Bool) (s : State) : (shiftIn b s).curLen = s.curLen + 1 := rfl
@[simp] theorem shiftIn_trPos (b : Bool) (s : State) : (shiftIn b s).trPos = s.trPos := rfl
@[simp] theorem shiftIn_trLim (b : Bool) (s : State) : (shiftIn b s).trLim = s.trLim := rfl
@[simp] theorem shiftIn_nwPos (b : Bool) (s : State) : (shiftIn b s).nwPos = s.nwPos := rfl
@[simp] theorem shiftIn_status (b : Bool) (s : State) : (shiftIn b s).status = s.status := rfl
@[simp] theorem shiftIn_ctrl (b : Bool) (s : State) : (shiftIn b s).ctrl = s.ctrl := rfl
@[simp] theorem shiftIn_inLen (b : Bool) (s : State) : (shiftIn b s).inLen = s.inLen := rfl
@[simp] theorem shiftIn_expWidth (b : Bool) (s : State) : (shiftIn b s).expWidth = s.expWidth := rfl
@[simp] theorem shiftIn_outLen (b : Bool) (s : State) : (shiftIn b s).outLen = s.outLen := rfl
@[simp] theorem shiftIn_errCode (b : Bool) (s : State) : (shiftIn b s).errCode = s.errCode := rfl
@[simp] theorem shiftIn_errPos (b : Bool) (s : State) : (shiftIn b s).errPos = s.errPos := rfl
@[simp] theorem shiftIn_pix (b : Bool) (s : State) : (shiftIn b s).pix = s.pix := rfl
@[simp] theorem shiftIn_code (b : Bool) (s : State) : (shiftIn b s).code = s.code := rfl
@[simp] theorem shiftIn_cap (b : Bool) (s : State) : (shiftIn b s).cap = s.cap := rfl
@[simp] theorem shiftIn_busy (b : Bool) (s : State) : (shiftIn b s).busy = s.busy := rfl
@[simp] theorem shiftIn_pending (b : Bool) (s : State) : (shiftIn b s).pending = s.pending := rfl
@[simp] theorem shiftIn_ret (b : Bool) (s : State) : (shiftIn b s).ret = s.ret := rfl
@[simp] theorem shiftIn_freeCount (b : Bool) (s : State) : (shiftIn b s).freeCount = s.freeCount := rfl

@[simp] theorem toDecState_curColor (st : DecState) (s : State) : (toDecState st s).curColor = s.curColor := rfl
@[simp] theorem toDecState_runCnt (st : DecState) (s : State) : (toDecState st s).runCnt = s.runCnt := rfl
@[simp] theorem toDecState_nrPos (st : DecState) (s : State) : (toDecState st s).nrPos = s.nrPos := rfl
@[simp] theorem toDecState_nrLim (st : DecState) (s : State) : (toDecState st s).nrLim = s.nrLim := rfl
@[simp] theorem toDecState_twPos (st : DecState) (s : State) : (toDecState st s).twPos = s.twPos := rfl
@[simp] theorem toDecState_decState (st : DecState) (s : State) : (toDecState st s).decState = st := rfl
@[simp] theorem toDecState_curVal (st : DecState) (s : State) : (toDecState st s).curVal = 0 := rfl
@[simp] theorem toDecState_curLen (st : DecState) (s : State) : (toDecState st s).curLen = 0 := rfl
@[simp] theorem toDecState_trPos (st : DecState) (s : State) : (toDecState st s).trPos = s.trPos := rfl
@[simp] theorem toDecState_trLim (st : DecState) (s : State) : (toDecState st s).trLim = s.trLim := rfl
@[simp] theorem toDecState_nwPos (st : DecState) (s : State) : (toDecState st s).nwPos = s.nwPos := rfl
@[simp] theorem toDecState_status (st : DecState) (s : State) : (toDecState st s).status = s.status := rfl
@[simp] theorem toDecState_ctrl (st : DecState) (s : State) : (toDecState st s).ctrl = s.ctrl := rfl
@[simp] theorem toDecState_inLen (st : DecState) (s : State) : (toDecState st s).inLen = s.inLen := rfl
@[simp] theorem toDecState_expWidth (st : DecState) (s : State) : (toDecState st s).expWidth = s.expWidth := rfl
@[simp] theorem toDecState_outLen (st : DecState) (s : State) : (toDecState st s).outLen = s.outLen := rfl
@[simp] theorem toDecState_errCode (st : DecState) (s : State) : (toDecState st s).errCode = s.errCode := rfl
@[simp] theorem toDecState_errPos (st : DecState) (s : State) : (toDecState st s).errPos = s.errPos := rfl
@[simp] theorem toDecState_pix (st : DecState) (s : State) : (toDecState st s).pix = s.pix := rfl
@[simp] theorem toDecState_code (st : DecState) (s : State) : (toDecState st s).code = s.code := rfl
@[simp] theorem toDecState_cap (st : DecState) (s : State) : (toDecState st s).cap = s.cap := rfl
@[simp] theorem toDecState_busy (st : DecState) (s : State) : (toDecState st s).busy = s.busy := rfl
@[simp] theorem toDecState_pending (st : DecState) (s : State) : (toDecState st s).pending = s.pending := rfl
@[simp] theorem toDecState_ret (st : DecState) (s : State) : (toDecState st s).ret = s.ret := rfl
@[simp] theorem toDecState_freeCount (st : DecState) (s : State) : (toDecState st s).freeCount = s.freeCount := rfl

@[simp] theorem clearErr_curColor (s : State) : (clearErr s).curColor = s.curColor := rfl
@[simp] theorem clearErr_runCnt (s : State) : (clearErr s).runCnt = s.runCnt := rfl
@[simp] theorem clearErr_nrPos (s : State) : (clearErr s).nrPos = s.nrPos := rfl
@[simp] theorem clearErr_nrLim (s : State) : (clearErr s).nrLim = s.nrLim := rfl
@[simp] theorem clearErr_twPos (s : State) : (clearErr s).twPos = s.twPos := rfl
@[simp] theorem clearErr_decState (s : State) : (clearErr s).decState = s.decState := rfl
@[simp] theorem clearErr_curVal (s : State) : (clearErr s).curVal = s.curVal := rfl
@[simp] theorem clearErr_curLen (s : State) : (clearErr s).curLen = s.curLen := rfl
@[simp] theorem clearErr_trPos (s : State) : (clearErr s).trPos = s.trPos := rfl
@[simp] theorem clearErr_trLim (s : State) : (clearErr s).trLim = s.trLim := rfl
@[simp] theorem clearErr_nwPos (s : State) : (clearErr s).nwPos = s.nwPos := rfl
@[simp] theorem clearErr_status (s : State) : (clearErr s).status = withoutErr s.status := rfl
@[simp] theorem clearErr_ctrl (s : State) : (clearErr s).ctrl = s.ctrl := rfl
@[simp] theorem clearErr_inLen (s : State) : (clearErr s).inLen = s.inLen := rfl
@[simp] theorem clearErr_expWidth (s : State) : (clearErr s).expWidth = s.expWidth := rfl
@[simp] theorem clearErr_outLen (s : State) : (clearErr s).outLen = s.outLen := rfl
@[simp] theorem clearErr_errCode (s : State) : (clearErr s).errCode = s.errCode := rfl
@[simp] theorem clearErr_errPos (s : State) : (clearErr s).errPos = s.errPos := rfl
@[simp] theorem clearErr_pix (s : State) : (clearErr s).pix = s.pix := rfl
@[simp] theorem clearErr_code (s : State) : (clearErr s).code = s.code := rfl
@[simp] theorem clearErr_cap (s : State) : (clearErr s).cap = s.cap := rfl
@[simp] theorem clearErr_busy (s : State) : (clearErr s).busy = s.busy := rfl
@[simp] theorem clearErr_pending (s : State) : (clearErr s).pending = s.pending := rfl
@[simp] theorem clearErr_ret (s : State) : (clearErr s).ret = s.ret := rfl
@[simp] theorem clearErr_freeCount (s : State) : (clearErr s).freeCount = s.freeCount := rfl

@[simp] theorem endNormally_curColor (s : State) : (endNormally s).curColor = s.curColor := rfl
@[simp] theorem endNormally_runCnt (s : State) : (endNormally s).runCnt = s.runCnt := rfl
@[simp] theorem endNormally_nrPos (s : State) : (endNormally s).nrPos = s.nrPos := rfl
@[simp] theorem endNormally_nrLim (s : State) : (endNormally s).nrLim = s.nrLim := rfl
@[simp] theorem endNormally_twPos (s : State) : (endNormally s).twPos = s.twPos := rfl
@[simp] theorem endNormally_decState (s : State) : (endNormally s).decState = s.decState := rfl
@[simp] theorem endNormally_curVal (s : State) : (endNormally s).curVal = s.curVal := rfl
@[simp] theorem endNormally_curLen (s : State) : (endNormally s).curLen = s.curLen := rfl
@[simp] theorem endNormally_trPos (s : State) : (endNormally s).trPos = s.trPos := rfl
@[simp] theorem endNormally_trLim (s : State) : (endNormally s).trLim = s.trLim := rfl
@[simp] theorem endNormally_nwPos (s : State) : (endNormally s).nwPos = s.nwPos := rfl
@[simp] theorem endNormally_status (s : State) : (endNormally s).status = withDone (withoutErr s.status) := rfl
@[simp] theorem endNormally_ctrl (s : State) : (endNormally s).ctrl = s.ctrl := rfl
@[simp] theorem endNormally_inLen (s : State) : (endNormally s).inLen = s.inLen := rfl
@[simp] theorem endNormally_expWidth (s : State) : (endNormally s).expWidth = s.expWidth := rfl
@[simp] theorem endNormally_outLen (s : State) : (endNormally s).outLen = s.outLen := rfl
@[simp] theorem endNormally_errCode (s : State) : (endNormally s).errCode = 0 := rfl
@[simp] theorem endNormally_errPos (s : State) : (endNormally s).errPos = 0 := rfl
@[simp] theorem endNormally_pix (s : State) : (endNormally s).pix = s.pix := rfl
@[simp] theorem endNormally_code (s : State) : (endNormally s).code = s.code := rfl
@[simp] theorem endNormally_cap (s : State) : (endNormally s).cap = s.cap := rfl
@[simp] theorem endNormally_busy (s : State) : (endNormally s).busy = none := rfl
@[simp] theorem endNormally_pending (s : State) : (endNormally s).pending = s.pending := rfl
@[simp] theorem endNormally_ret (s : State) : (endNormally s).ret = s.ret := rfl
@[simp] theorem endNormally_freeCount (s : State) : (endNormally s).freeCount = s.freeCount := rfl

@[simp] theorem reportException_curColor (x : Exc) (p : Nat) (s : State) : (reportException x p s).curColor = s.curColor := rfl
@[simp] theorem reportException_runCnt (x : Exc) (p : Nat) (s : State) : (reportException x p s).runCnt = s.runCnt := rfl
@[simp] theorem reportException_nrPos (x : Exc) (p : Nat) (s : State) : (reportException x p s).nrPos = s.nrPos := rfl
@[simp] theorem reportException_nrLim (x : Exc) (p : Nat) (s : State) : (reportException x p s).nrLim = s.nrLim := rfl
@[simp] theorem reportException_twPos (x : Exc) (p : Nat) (s : State) : (reportException x p s).twPos = s.twPos := rfl
@[simp] theorem reportException_decState (x : Exc) (p : Nat) (s : State) : (reportException x p s).decState = s.decState := rfl
@[simp] theorem reportException_curVal (x : Exc) (p : Nat) (s : State) : (reportException x p s).curVal = 0 := rfl
@[simp] theorem reportException_curLen (x : Exc) (p : Nat) (s : State) : (reportException x p s).curLen = 0 := rfl
@[simp] theorem reportException_trPos (x : Exc) (p : Nat) (s : State) : (reportException x p s).trPos = s.trPos := rfl
@[simp] theorem reportException_trLim (x : Exc) (p : Nat) (s : State) : (reportException x p s).trLim = s.trLim := rfl
@[simp] theorem reportException_nwPos (x : Exc) (p : Nat) (s : State) : (reportException x p s).nwPos = s.nwPos := rfl
@[simp] theorem reportException_status (x : Exc) (p : Nat) (s : State) : (reportException x p s).status = withErr (withDone s.status) := rfl
@[simp] theorem reportException_ctrl (x : Exc) (p : Nat) (s : State) : (reportException x p s).ctrl = s.ctrl := rfl
@[simp] theorem reportException_inLen (x : Exc) (p : Nat) (s : State) : (reportException x p s).inLen = s.inLen := rfl
@[simp] theorem reportException_expWidth (x : Exc) (p : Nat) (s : State) : (reportException x p s).expWidth = s.expWidth := rfl
@[simp] theorem reportException_outLen (x : Exc) (p : Nat) (s : State) : (reportException x p s).outLen = s.outLen := rfl
@[simp] theorem reportException_errCode (x : Exc) (p : Nat) (s : State) : (reportException x p s).errCode = x.code := rfl
@[simp] theorem reportException_errPos (x : Exc) (p : Nat) (s : State) : (reportException x p s).errPos = p := rfl
@[simp] theorem reportException_pix (x : Exc) (p : Nat) (s : State) : (reportException x p s).pix = s.pix := rfl
@[simp] theorem reportException_code (x : Exc) (p : Nat) (s : State) : (reportException x p s).code = s.code := rfl
@[simp] theorem reportException_cap (x : Exc) (p : Nat) (s : State) : (reportException x p s).cap = s.cap := rfl
@[simp] theorem reportException_busy (x : Exc) (p : Nat) (s : State) : (reportException x p s).busy = none := rfl
@[simp] theorem reportException_pending (x : Exc) (p : Nat) (s : State) : (reportException x p s).pending = s.pending := rfl
@[simp] theorem reportException_ret (x : Exc) (p : Nat) (s : State) : (reportException x p s).ret = s.ret := rfl
@[simp] theorem reportException_freeCount (x : Exc) (p : Nat) (s : State) : (reportException x p s).freeCount = s.freeCount := rfl

@[simp] theorem tookFree_curColor (s : State) : (tookFree s).curColor = s.curColor := rfl
@[simp] theorem tookFree_runCnt (s : State) : (tookFree s).runCnt = s.runCnt := rfl
@[simp] theorem tookFree_nrPos (s : State) : (tookFree s).nrPos = s.nrPos := rfl
@[simp] theorem tookFree_nrLim (s : State) : (tookFree s).nrLim = s.nrLim := rfl
@[simp] theorem tookFree_twPos (s : State) : (tookFree s).twPos = s.twPos := rfl
@[simp] theorem tookFree_decState (s : State) : (tookFree s).decState = s.decState := rfl
@[simp] theorem tookFree_curVal (s : State) : (tookFree s).curVal = s.curVal := rfl
@[simp] theorem tookFree_curLen (s : State) : (tookFree s).curLen = s.curLen := rfl
@[simp] theorem tookFree_trPos (s : State) : (tookFree s).trPos = s.trPos := rfl
@[simp] theorem tookFree_trLim (s : State) : (tookFree s).trLim = s.trLim := rfl
@[simp] theorem tookFree_nwPos (s : State) : (tookFree s).nwPos = s.nwPos := rfl
@[simp] theorem tookFree_status (s : State) : (tookFree s).status = s.status := rfl
@[simp] theorem tookFree_ctrl (s : State) : (tookFree s).ctrl = s.ctrl := rfl
@[simp] theorem tookFree_inLen (s : State) : (tookFree s).inLen = s.inLen := rfl
@[simp] theorem tookFree_expWidth (s : State) : (tookFree s).expWidth = s.expWidth := rfl
@[simp] theorem tookFree_outLen (s : State) : (tookFree s).outLen = s.outLen := rfl
@[simp] theorem tookFree_errCode (s : State) : (tookFree s).errCode = s.errCode := rfl
@[simp] theorem tookFree_errPos (s : State) : (tookFree s).errPos = s.errPos := rfl
@[simp] theorem tookFree_pix (s : State) : (tookFree s).pix = s.pix := rfl
@[simp] theorem tookFree_code (s : State) : (tookFree s).code = s.code := rfl
@[simp] theorem tookFree_cap (s : State) : (tookFree s).cap = s.cap := rfl
@[simp] theorem tookFree_busy (s : State) : (tookFree s).busy = s.busy := rfl
@[simp] theorem tookFree_pending (s : State) : (tookFree s).pending = s.pending := rfl
@[simp] theorem tookFree_ret (s : State) : (tookFree s).ret = s.ret := rfl
@[simp] theorem tookFree_freeCount (s : State) : (tookFree s).freeCount = s.freeCount + 1 := rfl

@[simp] theorem giveBack_curColor (r : Ret) (s : State) : (giveBack r s).curColor = s.curColor := rfl
@[simp] theorem giveBack_runCnt (r : Ret) (s : State) : (giveBack r s).runCnt = s.runCnt := rfl
@[simp] theorem giveBack_nrPos (r : Ret) (s : State) : (giveBack r s).nrPos = s.nrPos := rfl
@[simp] theorem giveBack_nrLim (r : Ret) (s : State) : (giveBack r s).nrLim = s.nrLim := rfl
@[simp] theorem giveBack_twPos (r : Ret) (s : State) : (giveBack r s).twPos = s.twPos := rfl
@[simp] theorem giveBack_decState (r : Ret) (s : State) : (giveBack r s).decState = s.decState := rfl
@[simp] theorem giveBack_curVal (r : Ret) (s : State) : (giveBack r s).curVal = s.curVal := rfl
@[simp] theorem giveBack_curLen (r : Ret) (s : State) : (giveBack r s).curLen = s.curLen := rfl
@[simp] theorem giveBack_trPos (r : Ret) (s : State) : (giveBack r s).trPos = s.trPos := rfl
@[simp] theorem giveBack_trLim (r : Ret) (s : State) : (giveBack r s).trLim = s.trLim := rfl
@[simp] theorem giveBack_nwPos (r : Ret) (s : State) : (giveBack r s).nwPos = s.nwPos := rfl
@[simp] theorem giveBack_status (r : Ret) (s : State) : (giveBack r s).status = s.status := rfl
@[simp] theorem giveBack_ctrl (r : Ret) (s : State) : (giveBack r s).ctrl = s.ctrl := rfl
@[simp] theorem giveBack_inLen (r : Ret) (s : State) : (giveBack r s).inLen = s.inLen := rfl
@[simp] theorem giveBack_expWidth (r : Ret) (s : State) : (giveBack r s).expWidth = s.expWidth := rfl
@[simp] theorem giveBack_outLen (r : Ret) (s : State) : (giveBack r s).outLen = s.outLen := rfl
@[simp] theorem giveBack_errCode (r : Ret) (s : State) : (giveBack r s).errCode = s.errCode := rfl
@[simp] theorem giveBack_errPos (r : Ret) (s : State) : (giveBack r s).errPos = s.errPos := rfl
@[simp] theorem giveBack_pix (r : Ret) (s : State) : (giveBack r s).pix = s.pix := rfl
@[simp] theorem giveBack_code (r : Ret) (s : State) : (giveBack r s).code = s.code := rfl
@[simp] theorem giveBack_cap (r : Ret) (s : State) : (giveBack r s).cap = s.cap := rfl
@[simp] theorem giveBack_busy (r : Ret) (s : State) : (giveBack r s).busy = s.busy := rfl
@[simp] theorem giveBack_pending (r : Ret) (s : State) : (giveBack r s).pending = s.pending := rfl
@[simp] theorem giveBack_ret (r : Ret) (s : State) : (giveBack r s).ret = r := rfl
@[simp] theorem giveBack_freeCount (r : Ret) (s : State) : (giveBack r s).freeCount = s.freeCount := rfl

@[simp] theorem setPixBit_curColor (i : Nat) (b : Bool) (s : State) : (setPixBit i b s).curColor = s.curColor := rfl
@[simp] theorem setPixBit_runCnt (i : Nat) (b : Bool) (s : State) : (setPixBit i b s).runCnt = s.runCnt := rfl
@[simp] theorem setPixBit_nrPos (i : Nat) (b : Bool) (s : State) : (setPixBit i b s).nrPos = s.nrPos := rfl
@[simp] theorem setPixBit_nrLim (i : Nat) (b : Bool) (s : State) : (setPixBit i b s).nrLim = s.nrLim := rfl
@[simp] theorem setPixBit_twPos (i : Nat) (b : Bool) (s : State) : (setPixBit i b s).twPos = s.twPos := rfl
@[simp] theorem setPixBit_decState (i : Nat) (b : Bool) (s : State) : (setPixBit i b s).decState = s.decState := rfl
@[simp] theorem setPixBit_curVal (i : Nat) (b : Bool) (s : State) : (setPixBit i b s).curVal = s.curVal := rfl
@[simp] theorem setPixBit_curLen (i : Nat) (b : Bool) (s : State) : (setPixBit i b s).curLen = s.curLen := rfl
@[simp] theorem setPixBit_trPos (i : Nat) (b : Bool) (s : State) : (setPixBit i b s).trPos = s.trPos := rfl
@[simp] theorem setPixBit_trLim (i : Nat) (b : Bool) (s : State) : (setPixBit i b s).trLim = s.trLim := rfl
@[simp] theorem setPixBit_nwPos (i : Nat) (b : Bool) (s : State) : (setPixBit i b s).nwPos = s.nwPos := rfl
@[simp] theorem setPixBit_status (i : Nat) (b : Bool) (s : State) : (setPixBit i b s).status = s.status := rfl
@[simp] theorem setPixBit_ctrl (i : Nat) (b : Bool) (s : State) : (setPixBit i b s).ctrl = s.ctrl := rfl
@[simp] theorem setPixBit_inLen (i : Nat) (b : Bool) (s : State) : (setPixBit i b s).inLen = s.inLen := rfl
@[simp] theorem setPixBit_expWidth (i : Nat) (b : Bool) (s : State) : (setPixBit i b s).expWidth = s.expWidth := rfl
@[simp] theorem setPixBit_outLen (i : Nat) (b : Bool) (s : State) : (setPixBit i b s).outLen = s.outLen := rfl
@[simp] theorem setPixBit_errCode (i : Nat) (b : Bool) (s : State) : (setPixBit i b s).errCode = s.errCode := rfl
@[simp] theorem setPixBit_errPos (i : Nat) (b : Bool) (s : State) : (setPixBit i b s).errPos = s.errPos := rfl
@[simp] theorem setPixBit_pix (i : Nat) (b : Bool) (s : State) : (setPixBit i b s).pix = s.pix.write (i / 8) (byteWithBit (pixByte s (i / 8)) (7 - i % 8) b) := rfl
@[simp] theorem setPixBit_code (i : Nat) (b : Bool) (s : State) : (setPixBit i b s).code = s.code := rfl
@[simp] theorem setPixBit_cap (i : Nat) (b : Bool) (s : State) : (setPixBit i b s).cap = s.cap := rfl
@[simp] theorem setPixBit_busy (i : Nat) (b : Bool) (s : State) : (setPixBit i b s).busy = s.busy := rfl
@[simp] theorem setPixBit_pending (i : Nat) (b : Bool) (s : State) : (setPixBit i b s).pending = s.pending := rfl
@[simp] theorem setPixBit_ret (i : Nat) (b : Bool) (s : State) : (setPixBit i b s).ret = s.ret := rfl
@[simp] theorem setPixBit_freeCount (i : Nat) (b : Bool) (s : State) : (setPixBit i b s).freeCount = s.freeCount := rfl

@[simp] theorem setCodeBit_curColor (j : Nat) (b : Bool) (s : State) : (setCodeBit j b s).curColor = s.curColor := rfl
@[simp] theorem setCodeBit_runCnt (j : Nat) (b : Bool) (s : State) : (setCodeBit j b s).runCnt = s.runCnt := rfl
@[simp] theorem setCodeBit_nrPos (j : Nat) (b : Bool) (s : State) : (setCodeBit j b s).nrPos = s.nrPos := rfl
@[simp] theorem setCodeBit_nrLim (j : Nat) (b : Bool) (s : State) : (setCodeBit j b s).nrLim = s.nrLim := rfl
@[simp] theorem setCodeBit_twPos (j : Nat) (b : Bool) (s : State) : (setCodeBit j b s).twPos = s.twPos := rfl
@[simp] theorem setCodeBit_decState (j : Nat) (b : Bool) (s : State) : (setCodeBit j b s).decState = s.decState := rfl
@[simp] theorem setCodeBit_curVal (j : Nat) (b : Bool) (s : State) : (setCodeBit j b s).curVal = s.curVal := rfl
@[simp] theorem setCodeBit_curLen (j : Nat) (b : Bool) (s : State) : (setCodeBit j b s).curLen = s.curLen := rfl
@[simp] theorem setCodeBit_trPos (j : Nat) (b : Bool) (s : State) : (setCodeBit j b s).trPos = s.trPos := rfl
@[simp] theorem setCodeBit_trLim (j : Nat) (b : Bool) (s : State) : (setCodeBit j b s).trLim = s.trLim := rfl
@[simp] theorem setCodeBit_nwPos (j : Nat) (b : Bool) (s : State) : (setCodeBit j b s).nwPos = s.nwPos := rfl
@[simp] theorem setCodeBit_status (j : Nat) (b : Bool) (s : State) : (setCodeBit j b s).status = s.status := rfl
@[simp] theorem setCodeBit_ctrl (j : Nat) (b : Bool) (s : State) : (setCodeBit j b s).ctrl = s.ctrl := rfl
@[simp] theorem setCodeBit_inLen (j : Nat) (b : Bool) (s : State) : (setCodeBit j b s).inLen = s.inLen := rfl
@[simp] theorem setCodeBit_expWidth (j : Nat) (b : Bool) (s : State) : (setCodeBit j b s).expWidth = s.expWidth := rfl
@[simp] theorem setCodeBit_outLen (j : Nat) (b : Bool) (s : State) : (setCodeBit j b s).outLen = s.outLen := rfl
@[simp] theorem setCodeBit_errCode (j : Nat) (b : Bool) (s : State) : (setCodeBit j b s).errCode = s.errCode := rfl
@[simp] theorem setCodeBit_errPos (j : Nat) (b : Bool) (s : State) : (setCodeBit j b s).errPos = s.errPos := rfl
@[simp] theorem setCodeBit_pix (j : Nat) (b : Bool) (s : State) : (setCodeBit j b s).pix = s.pix := rfl
@[simp] theorem setCodeBit_code (j : Nat) (b : Bool) (s : State) : (setCodeBit j b s).code = s.code.write (j / 8) (byteWithBit (codeByte s (j / 8)) (j % 8) b) := rfl
@[simp] theorem setCodeBit_cap (j : Nat) (b : Bool) (s : State) : (setCodeBit j b s).cap = s.cap := rfl
@[simp] theorem setCodeBit_busy (j : Nat) (b : Bool) (s : State) : (setCodeBit j b s).busy = s.busy := rfl
@[simp] theorem setCodeBit_pending (j : Nat) (b : Bool) (s : State) : (setCodeBit j b s).pending = s.pending := rfl
@[simp] theorem setCodeBit_ret (j : Nat) (b : Bool) (s : State) : (setCodeBit j b s).ret = s.ret := rfl
@[simp] theorem setCodeBit_freeCount (j : Nat) (b : Bool) (s : State) : (setCodeBit j b s).freeCount = s.freeCount := rfl

end Sys2Proof.Machine
end

