-- ==== Sys2Proof/Laws/Memory.lean ====
section
/-! SUPPORT. Reading after writing, what a write leaves alone, and the canonical form of a memory. -/

namespace Sys2Proof.Machine

theorem cellAt_putCell (l : List Host.Cell) (a x : Nat) (v : Byte) :
    cellAt (putCell l a v) x = if x = a then some v else cellAt l x := by
  induction l with
  | nil => simp only [putCell, cellAt, eq_comm (a := a)]
  | cons c rest ih =>
    obtain ⟨b, y⟩ := c
    simp only [putCell]
    split
    · simp only [cellAt, eq_comm (a := a)]
    · split
      · rename_i h
        subst h
        simp only [cellAt]
        split <;> simp_all [eq_comm]
      · simp only [cellAt, ih]
        split
        · rename_i h1 h2 h3
          subst h3
          simp [Ne.symm h2]
        · rfl

theorem mem_putCell {l : List Host.Cell} {a : Nat} {v : Byte} {c : Host.Cell} (h : c ∈ putCell l a v) :
    c = (a, v) ∨ c ∈ l := by
  induction l with
  | nil => simpa [putCell] using h
  | cons d rest ih =>
    obtain ⟨b, y⟩ := d
    simp only [putCell] at h
    split at h
    · simpa using h
    · split at h
      · simp only [List.mem_cons] at h ⊢
        tauto
      · simp only [List.mem_cons] at h ⊢
        rcases h with h | h
        · exact .inr (.inl h)
        · rcases ih h with h | h
          · exact .inl h
          · exact .inr (.inr h)

theorem risingCells_cons (a : Nat) (x : Byte) (rest : List Host.Cell) :
    risingCells ((a, x) :: rest) = true ↔ (∀ c, rest.head? = some c → a < c.1) ∧ risingCells rest = true := by
  cases rest with
  | nil => simp [risingCells]
  | cons c rest => obtain ⟨b, y⟩ := c; simp [risingCells]

theorem head_putCell (l : List Host.Cell) (a : Nat) (v : Byte) (c : Host.Cell)
    (h : (putCell l a v).head? = some c) : c.1 = a ∨ l.head? = some c := by
  cases l with
  | nil => simp only [putCell, List.head?_cons, Option.some.injEq] at h; exact .inl (h ▸ rfl)
  | cons d rest =>
    obtain ⟨b, y⟩ := d
    simp only [putCell] at h
    split at h
    · simp only [List.head?_cons, Option.some.injEq] at h; exact .inl (h ▸ rfl)
    · split at h
      · simp only [List.head?_cons, Option.some.injEq] at h; exact .inl (h ▸ rfl)
      · exact .inr h

theorem risingCells_putCell {l : List Host.Cell} (a : Nat) (v : Byte) (h : risingCells l = true) :
    risingCells (putCell l a v) = true := by
  induction l with
  | nil => rfl
  | cons d rest ih =>
    obtain ⟨b, y⟩ := d
    have hr := (risingCells_cons b y rest).1 h
    simp only [putCell]
    split
    · rename_i hab
      exact (risingCells_cons a v _).2 ⟨fun c hc => by simp at hc; exact hc ▸ hab, h⟩
    · split
      · rename_i hab
        subst hab
        exact (risingCells_cons a v _).2 hr
      · rename_i h1 h2
        refine (risingCells_cons b y _).2 ⟨fun c hc => ?_, ih hr.2⟩
        rcases head_putCell rest a v c hc with hc | hc
        · omega
        · exact hr.1 c hc

/-- A write keeps the canonical form. -/
theorem Memory.wf_write {m : Memory} (a : Nat) (v : Byte) (h : m.wf = true) : (m.write a v).wf = true :=
  risingCells_putCell a v h

@[simp] theorem Memory.wf_unspecified (e : Nat) : (Memory.unspecified e).wf = true := rfl

/-- A memory that has become unspecified is in canonical form. -/
@[simp] theorem Memory.wf_forget (m : Memory) : m.forget.wf = true := rfl

/-- The memories of the state after reset are in canonical form. -/
theorem resetWith_wf (cap : Config.Capacity) :
    (State.resetWith cap).pix.wf = true ∧ (State.resetWith cap).code.wf = true := ⟨rfl, rfl⟩

theorem byteWithBit_getLsbD (x : Byte) (k j : Nat) (b : Bool) (hk : k < 8) :
    (byteWithBit x k b).getLsbD j = if j = k then b else x.getLsbD j := by
  have hk' : k = 0 ∨ k = 1 ∨ k = 2 ∨ k = 3 ∨ k = 4 ∨ k = 5 ∨ k = 6 ∨ k = 7 := by omega
  by_cases hj : j < 8
  · have hj' : j = 0 ∨ j = 1 ∨ j = 2 ∨ j = 3 ∨ j = 4 ∨ j = 5 ∨ j = 6 ∨ j = 7 := by omega
    rcases hk' with rfl | rfl | rfl | rfl | rfl | rfl | rfl | rfl <;>
      rcases hj' with rfl | rfl | rfl | rfl | rfl | rfl | rfl | rfl <;>
        cases b <;> simp [byteWithBit]
  · rw [if_neg (by omega), BitVec.getLsbD_of_ge _ _ (by omega), BitVec.getLsbD_of_ge _ _ (by omega)]

theorem pixByte_setPixBit (i a : Nat) (b : Bool) (s : State) :
    pixByte (setPixBit i b s) a =
      if a = i / 8 then byteWithBit (pixByte s (i / 8)) (7 - i % 8) b else pixByte s a := by
  simp only [pixByte, setPixBit_pix, Memory.write, cellAt_putCell]
  split <;> rfl

theorem codeByte_setCodeBit (i a : Nat) (b : Bool) (s : State) :
    codeByte (setCodeBit i b s) a =
      if a = i / 8 then byteWithBit (codeByte s (i / 8)) (i % 8) b else codeByte s a := by
  simp only [codeByte, setCodeBit_code, Memory.write, cellAt_putCell]
  split <;> rfl

/-- A pixel written is read back, and every other pixel reads as before (20_memory.md R35). -/
@[simp] theorem pixBit_setPixBit (i j : Nat) (b : Bool) (s : State) :
    pixBit (setPixBit i b s) j = if j = i then b else pixBit s j := by
  simp only [pixBit, pixByte_setPixBit]
  by_cases hq : j / 8 = i / 8
  · rw [if_pos hq, byteWithBit_getLsbD _ _ _ _ (by omega), hq]
    by_cases hji : j = i
    · simp [hji]
    · rw [if_neg hji, if_neg (by omega)]
  · rw [if_neg hq, if_neg (by rintro rfl; exact hq rfl)]

/-- A stream bit written is read back, and every other stream bit reads as before (20_memory.md R36). -/
@[simp] theorem codeBit_setCodeBit (i j : Nat) (b : Bool) (s : State) :
    codeBit (setCodeBit i b s) j = if j = i then b else codeBit s j := by
  simp only [codeBit, codeByte_setCodeBit]
  by_cases hq : j / 8 = i / 8
  · rw [if_pos hq, byteWithBit_getLsbD _ _ _ _ (by omega), hq]
    by_cases hji : j = i
    · simp [hji]
    · rw [if_neg hji, if_neg (by omega)]
  · rw [if_neg hq, if_neg (by rintro rfl; exact hq rfl)]

/-- A byte written is read back, and every other byte of either memory reads as before. -/
theorem memByte_setMemByte (m m' : MemSel) (a x : Nat) (v : Byte) (s : State) :
    memByte m (setMemByte m' a v s) x = if m = m' ∧ x = a then v else memByte m s x := by
  cases m <;> cases m' <;>
    simp only [memByte, setMemByte, pixByte, codeByte, Memory.write, cellAt_putCell, reduceCtorEq, false_and,
      if_false, true_and]
  all_goals
    by_cases h : x = a <;> simp [h]

end Sys2Proof.Machine
end

