-- ==== Sys2Proof/Laws/Ops.lean ====
section
/-! SUPPORT. For each shared operation, what it changes and what it leaves as it is. -/

namespace Sys2Proof.Machine

-- ## Runs of pixels and of stream bits

/-- A run of pixels changes `nw_pos` and PIX only. -/
theorem nwPut_eq (c : Color) (n : Nat) (s : State) :
    nwPut c n s = { s with nwPos := s.nwPos + n, pix := (nwPut c n s).pix } := by
  induction n generalizing s with
  | zero => rfl
  | succ n ih =>
    rw [nwPut, ih]
    simp only [setPixBit, State.mk.injEq, true_and, and_true]
    omega

/-- The pixels of a run have its colour, all others are as before (41_bit_accessors.md R85). -/
theorem pixBit_nwPut (c : Color) (n : Nat) (s : State) (p : Nat) :
    pixBit (nwPut c n s) p = if s.nwPos ≤ p ∧ p < s.nwPos + n then c.bit else pixBit s p := by
  induction n generalizing s with
  | zero => rw [if_neg (by omega)]; rfl
  | succ n ih =>
    rw [nwPut, ih]
    show (if s.nwPos + 1 ≤ p ∧ p < s.nwPos + 1 + n then c.bit else pixBit (setPixBit s.nwPos c.bit s) p) = _
    rw [pixBit_setPixBit]
    split_ifs <;> first | rfl | omega

theorem nwPut_wf (c : Color) (n : Nat) (s : State) (h : s.pix.wf = true) : (nwPut c n s).pix.wf = true := by
  induction n generalizing s with
  | zero => exact h
  | succ n ih => exact ih _ (Memory.wf_write _ _ h)

/-- Closing the row changes PIX only. -/
theorem padPix_eq (k p : Nat) (s : State) : padPix k p s = { s with pix := (padPix k p s).pix } := by
  induction k generalizing p s with
  | zero => rfl
  | succ k ih => rw [padPix, ih]; rfl

theorem pixBit_padPix (k p : Nat) (s : State) (q : Nat) :
    pixBit (padPix k p s) q = if p ≤ q ∧ q < p + k then false else pixBit s q := by
  induction k generalizing p s with
  | zero => rw [if_neg (by omega)]; rfl
  | succ k ih =>
    rw [padPix, ih, pixBit_setPixBit]
    split_ifs <;> first | rfl | omega

theorem padPix_wf (k p : Nat) (s : State) (h : s.pix.wf = true) : (padPix k p s).pix.wf = true := by
  induction k generalizing p s with
  | zero => exact h
  | succ k ih => exact ih _ _ (Memory.wf_write _ _ h)

/-- Writing stream bits changes `tw_pos` and CODE only. -/
theorem twPutBits_eq (bs : List Bool) (s : State) :
    twPutBits bs s = { s with twPos := s.twPos + bs.length, code := (twPutBits bs s).code } := by
  induction bs generalizing s with
  | nil => rfl
  | cons b bs ih =>
    rw [twPutBits, ih]
    simp only [setCodeBit, State.mk.injEq, true_and, and_true, List.length_cons]
    omega

/-- The stream bits written are read back in the order written, all others are as before (41_bit_accessors.md R77, R87). -/
theorem codeBit_twPutBits (bs : List Bool) (s : State) (j : Nat) :
    codeBit (twPutBits bs s) j =
      if s.twPos ≤ j ∧ j < s.twPos + bs.length then bs.getD (j - s.twPos) false else codeBit s j := by
  induction bs generalizing s with
  | nil => rw [if_neg (by simp)]; rfl
  | cons b bs ih =>
    rw [twPutBits, ih]
    show (if s.twPos + 1 ≤ j ∧ j < s.twPos + 1 + bs.length then bs.getD (j - (s.twPos + 1)) false
      else codeBit (setCodeBit s.twPos b s) j) = _
    rw [codeBit_setCodeBit, List.length_cons]
    by_cases h1 : j = s.twPos
    · subst h1
      rw [if_neg (by omega), if_pos rfl, if_pos (by omega), Nat.sub_self, List.getD_cons_zero]
    · by_cases h2 : s.twPos + 1 ≤ j ∧ j < s.twPos + 1 + bs.length
      · rw [if_pos h2, if_pos (by omega), show j - s.twPos = (j - (s.twPos + 1)) + 1 by omega, List.getD_cons_succ]
      · rw [if_neg h2, if_neg h1, if_neg (by omega)]

theorem twPutBits_wf (bs : List Bool) (s : State) (h : s.code.wf = true) : (twPutBits bs s).code.wf = true := by
  induction bs generalizing s with
  | nil => exact h
  | cons b bs ih => exact ih _ (Memory.wf_write _ _ h)

/-- Stream bits written, or a fault: nothing else can come of it. -/
theorem twWriteBits_cases (bs : List Bool) (s : State) :
    (twRoom bs.length s = true ∧ twWriteBits bs s = .next (twPutBits bs s)) ∨
      (twRoom bs.length s = false ∧ twWriteBits bs s = .fault .noSuchAddress) := by
  unfold twWriteBits
  cases twRoom bs.length s <;> simp

-- ## Bytes of the host

theorem memByte_writeBytes (m m' : MemSel) (addr : Nat) (vs : List Byte) (s : State) (x : Nat) :
    memByte m (writeBytes m' addr vs s) x =
      if m = m' ∧ addr ≤ x ∧ x < addr + vs.length then vs.getD (x - addr) 0 else memByte m s x := by
  induction vs generalizing addr s with
  | nil => rw [if_neg (by simp)]; rfl
  | cons v vs ih =>
    rw [writeBytes, ih, memByte_setMemByte, List.length_cons]
    by_cases hm : m = m'
    · by_cases h1 : x = addr
      · subst h1
        simp [hm]
      · by_cases h2 : addr + 1 ≤ x ∧ x < addr + 1 + vs.length
        · rw [if_pos ⟨hm, h2⟩, if_pos ⟨hm, by omega⟩, show x - addr = (x - (addr + 1)) + 1 by omega,
            List.getD_cons_succ]
        · rw [if_neg (by tauto), if_neg (by tauto), if_neg (by rintro ⟨-, h3⟩; omega)]
    · simp [hm]

theorem setMemByte_wf (m : MemSel) (addr : Nat) (v : Byte) (s : State) (hp : s.pix.wf = true) (hc : s.code.wf = true) :
    (setMemByte m addr v s).pix.wf = true ∧ (setMemByte m addr v s).code.wf = true := by
  cases m
  · exact ⟨Memory.wf_write _ _ hp, hc⟩
  · exact ⟨hp, Memory.wf_write _ _ hc⟩

theorem writeBytes_wf (m : MemSel) (addr : Nat) (vs : List Byte) (s : State) (hp : s.pix.wf = true)
    (hc : s.code.wf = true) :
    (writeBytes m addr vs s).pix.wf = true ∧ (writeBytes m addr vs s).code.wf = true := by
  induction vs generalizing addr s with
  | nil => exact ⟨hp, hc⟩
  | cons v vs ih =>
    have h := setMemByte_wf m addr v s hp hc
    exact ih _ _ h.1 h.2

/-- Host bytes change the two memories only. -/
theorem writeBytes_eq (m : MemSel) (addr : Nat) (vs : List Byte) (s : State) :
    writeBytes m addr vs s = { s with pix := (writeBytes m addr vs s).pix, code := (writeBytes m addr vs s).code } := by
  induction vs generalizing addr s with
  | nil => rfl
  | cons v vs ih => rw [writeBytes, ih]; cases m <;> rfl

-- ## Exception entry (60_exceptions.md R132)

/-- What exception entry leaves as it is: everything but the result registers, the accumulator, `busy`, OUT_LEN and PIX. -/
theorem raiseException_eq (x : Exc) (op : Operation) (p : Nat) (s : State) :
    raiseException x op p s =
      { s with
        curVal := 0
        curLen := 0
        status := withErr (withDone s.status)
        errCode := x.code
        errPos := p
        busy := none
        outLen := (raiseException x op p s).outLen
        pix := (raiseException x op p s).pix } := by
  cases x <;> cases op <;> rfl

/-- WidthMismatch leaves OUT_LEN and PIX. -/
@[simp] theorem raiseException_widthMismatch (op : Operation) (p : Nat) (s : State) :
    raiseException .widthMismatch op p s = reportException .widthMismatch p s := by
  cases op <;> rfl

/-- The other exceptions set OUT_LEN to 0, and those of DECODE_ROW make all of PIX unspecified. -/
theorem raiseException_other {x : Exc} (h : x ≠ .widthMismatch) (op : Operation) (p : Nat) (s : State) :
    (raiseException x op p s).outLen = 0 ∧
      (raiseException x op p s).pix = if op = .decodeRow then s.pix.forget else s.pix := by
  cases x <;> cases op <;> simp_all [raiseException]

-- ## Free values

/-- A value cut to a bound is within it. -/
theorem within_upTo (bound : Option Nat) (n : Nat) : Config.within (Config.upTo bound n) bound = true := by
  cases bound with
  | none => rfl
  | some m => exact decide_eq_true (Nat.lt_succ_iff.mp (Nat.mod_lt n (Nat.succ_pos m)))

@[simp] theorem length_numberBits (k w : Nat) : (numberBits k w).length = k := by
  induction k with
  | zero => rfl
  | succ k ih => simp [numberBits, ih]

-- ## The decoder

@[simp] theorem DecRun.state_goes (s : State) : (DecRun.goes s).state = s := rfl

@[simp] theorem DecRun.state_ends (s : State) : (DecRun.ends s).state = s := rfl

/-- A run is written whole, or CapacityFault is raised before any pixel of it (41_bit_accessors.md R85). -/
theorem emitRun_cases (c : Color) (n : Nat) (st : DecState) (s : State) :
    (nwFits n s = true ∧ emitRun c n st s = .goes (toDecState st (nwPut c n s))) ∨
      (nwFits n s = false ∧ emitRun c n st s = .ends (raiseException .capacityFault .decodeRow s.trPos s)) := by
  unfold emitRun nwWriteRun
  cases nwFits n s <;> simp [decRaise]

/-- A turn of the decoder comes to one of five things (44_decoder.md R102). -/
theorem afterShift_cases (s : State) :
    (s.curLen > 13 ∧ afterShift s = .ends (raiseException .formatError .decodeRow s.trPos s)) ∨
      (s.curLen ≤ 13 ∧
        (afterShift s = emitEol s ∨ (∃ q, afterShift s = emitMakeup s.decState.color q s) ∨
          (∃ n, afterShift s = emitTerm s.decState.color n s) ∨ afterShift s = .goes s)) := by
  unfold afterShift matchCodes
  by_cases h : s.curLen > 13
  · left; simp [h, Config.maxCodeLen, decRaise]
  · right
    refine ⟨by omega, ?_⟩
    rw [if_neg (by simpa [Config.maxCodeLen] using h)]
    split
    · exact .inl rfl
    · split
      · exact .inr (.inl ⟨_, rfl⟩)
      · split
        · exact .inr (.inr (.inl ⟨_, rfl⟩))
        · exact .inr (.inr (.inr rfl))

end Sys2Proof.Machine
end

