-- ==== Sys2Proof/Laws/PerInstr.lean ====
section
/-! SUPPORT. Statements about the instructions as syntax, one lemma per constructor. -/

namespace Sys2Proof.Laws.CodeOfInstr

/-- The string an instruction stands for is the string that the instruction is read from. -/
def Statement (i : Instr) : Prop := ∀ r, codeRefOf i = some r → codeInstr r = some i

/-- An instruction of the stream. -/
theorem of_code {i : Instr} {r : CodeRef} (h : codeRefOf i = some r) (h' : codeInstr r = some i) : Statement i :=
  fun _ hr => Option.some.inj (h.symm.trans hr) ▸ h'

/-- An instruction that is no string of the stream. -/
theorem of_none {i : Instr} (h : codeRefOf i = none) : Statement i :=
  fun _ hr => nomatch h.symm.trans hr

theorem wt0 : Statement .wt0 := of_code rfl rfl
theorem wt1 : Statement .wt1 := of_code rfl rfl
theorem wt2 : Statement .wt2 := of_code rfl rfl
theorem wt3 : Statement .wt3 := of_code rfl rfl
theorem wt4 : Statement .wt4 := of_code rfl rfl
theorem wt5 : Statement .wt5 := of_code rfl rfl
theorem wt6 : Statement .wt6 := of_code rfl rfl
theorem wt7 : Statement .wt7 := of_code rfl rfl
theorem wt8 : Statement .wt8 := of_code rfl rfl
theorem wt9 : Statement .wt9 := of_code rfl rfl
theorem wt10 : Statement .wt10 := of_code rfl rfl
theorem wt11 : Statement .wt11 := of_code rfl rfl
theorem wt12 : Statement .wt12 := of_code rfl rfl
theorem wt13 : Statement .wt13 := of_code rfl rfl
theorem wt14 : Statement .wt14 := of_code rfl rfl
theorem wt15 : Statement .wt15 := of_code rfl rfl
theorem wt16 : Statement .wt16 := of_code rfl rfl
theorem wt17 : Statement .wt17 := of_code rfl rfl
theorem wt18 : Statement .wt18 := of_code rfl rfl
theorem wt19 : Statement .wt19 := of_code rfl rfl
theorem wt20 : Statement .wt20 := of_code rfl rfl
theorem wt21 : Statement .wt21 := of_code rfl rfl
theorem wt22 : Statement .wt22 := of_code rfl rfl
theorem wt23 : Statement .wt23 := of_code rfl rfl
theorem wt24 : Statement .wt24 := of_code rfl rfl
theorem wt25 : Statement .wt25 := of_code rfl rfl
theorem wt26 : Statement .wt26 := of_code rfl rfl
theorem wt27 : Statement .wt27 := of_code rfl rfl
theorem wt28 : Statement .wt28 := of_code rfl rfl
theorem wt29 : Statement .wt29 := of_code rfl rfl
theorem wt30 : Statement .wt30 := of_code rfl rfl
theorem wt31 : Statement .wt31 := of_code rfl rfl
theorem wt32 : Statement .wt32 := of_code rfl rfl
theorem wt33 : Statement .wt33 := of_code rfl rfl
theorem wt34 : Statement .wt34 := of_code rfl rfl
theorem wt35 : Statement .wt35 := of_code rfl rfl
theorem wt36 : Statement .wt36 := of_code rfl rfl
theorem wt37 : Statement .wt37 := of_code rfl rfl
theorem wt38 : Statement .wt38 := of_code rfl rfl
theorem wt39 : Statement .wt39 := of_code rfl rfl
theorem wt40 : Statement .wt40 := of_code rfl rfl
theorem wt41 : Statement .wt41 := of_code rfl rfl
theorem wt42 : Statement .wt42 := of_code rfl rfl
theorem wt43 : Statement .wt43 := of_code rfl rfl
theorem wt44 : Statement .wt44 := of_code rfl rfl
theorem wt45 : Statement .wt45 := of_code rfl rfl
theorem wt46 : Statement .wt46 := of_code rfl rfl
theorem wt47 : Statement .wt47 := of_code rfl rfl
theorem wt48 : Statement .wt48 := of_code rfl rfl
theorem wt49 : Statement .wt49 := of_code rfl rfl
theorem wt50 : Statement .wt50 := of_code rfl rfl
theorem wt51 : Statement .wt51 := of_code rfl rfl
theorem wt52 : Statement .wt52 := of_code rfl rfl
theorem wt53 : Statement .wt53 := of_code rfl rfl
theorem wt54 : Statement .wt54 := of_code rfl rfl
theorem wt55 : Statement .wt55 := of_code rfl rfl
theorem wt56 : Statement .wt56 := of_code rfl rfl
theorem wt57 : Statement .wt57 := of_code rfl rfl
theorem wt58 : Statement .wt58 := of_code rfl rfl
theorem wt59 : Statement .wt59 := of_code rfl rfl
theorem wt60 : Statement .wt60 := of_code rfl rfl
theorem wt61 : Statement .wt61 := of_code rfl rfl
theorem wt62 : Statement .wt62 := of_code rfl rfl
theorem wt63 : Statement .wt63 := of_code rfl rfl
theorem bt0 : Statement .bt0 := of_code rfl rfl
theorem bt1 : Statement .bt1 := of_code rfl rfl
theorem bt2 : Statement .bt2 := of_code rfl rfl
theorem bt3 : Statement .bt3 := of_code rfl rfl
theorem bt4 : Statement .bt4 := of_code rfl rfl
theorem bt5 : Statement .bt5 := of_code rfl rfl
theorem bt6 : Statement .bt6 := of_code rfl rfl
theorem bt7 : Statement .bt7 := of_code rfl rfl
theorem bt8 : Statement .bt8 := of_code rfl rfl
theorem bt9 : Statement .bt9 := of_code rfl rfl
theorem bt10 : Statement .bt10 := of_code rfl rfl
theorem bt11 : Statement .bt11 := of_code rfl rfl
theorem bt12 : Statement .bt12 := of_code rfl rfl
theorem bt13 : Statement .bt13 := of_code rfl rfl
theorem bt14 : Statement .bt14 := of_code rfl rfl
theorem bt15 : Statement .bt15 := of_code rfl rfl
theorem bt16 : Statement .bt16 := of_code rfl rfl
theorem bt17 : Statement .bt17 := of_code rfl rfl
theorem bt18 : Statement .bt18 := of_code rfl rfl
theorem bt19 : Statement .bt19 := of_code rfl rfl
theorem bt20 : Statement .bt20 := of_code rfl rfl
theorem bt21 : Statement .bt21 := of_code rfl rfl
theorem bt22 : Statement .bt22 := of_code rfl rfl
theorem bt23 : Statement .bt23 := of_code rfl rfl
theorem bt24 : Statement .bt24 := of_code rfl rfl
theorem bt25 : Statement .bt25 := of_code rfl rfl
theorem bt26 : Statement .bt26 := of_code rfl rfl
theorem bt27 : Statement .bt27 := of_code rfl rfl
theorem bt28 : Statement .bt28 := of_code rfl rfl
theorem bt29 : Statement .bt29 := of_code rfl rfl
theorem bt30 : Statement .bt30 := of_code rfl rfl
theorem bt31 : Statement .bt31 := of_code rfl rfl
theorem bt32 : Statement .bt32 := of_code rfl rfl
theorem bt33 : Statement .bt33 := of_code rfl rfl
theorem bt34 : Statement .bt34 := of_code rfl rfl
theorem bt35 : Statement .bt35 := of_code rfl rfl
theorem bt36 : Statement .bt36 := of_code rfl rfl
theorem bt37 : Statement .bt37 := of_code rfl rfl
theorem bt38 : Statement .bt38 := of_code rfl rfl
theorem bt39 : Statement .bt39 := of_code rfl rfl
theorem bt40 : Statement .bt40 := of_code rfl rfl
theorem bt41 : Statement .bt41 := of_code rfl rfl
theorem bt42 : Statement .bt42 := of_code rfl rfl
theorem bt43 : Statement .bt43 := of_code rfl rfl
theorem bt44 : Statement .bt44 := of_code rfl rfl
theorem bt45 : Statement .bt45 := of_code rfl rfl
theorem bt46 : Statement .bt46 := of_code rfl rfl
theorem bt47 : Statement .bt47 := of_code rfl rfl
theorem bt48 : Statement .bt48 := of_code rfl rfl
theorem bt49 : Statement .bt49 := of_code rfl rfl
theorem bt50 : Statement .bt50 := of_code rfl rfl
theorem bt51 : Statement .bt51 := of_code rfl rfl
theorem bt52 : Statement .bt52 := of_code rfl rfl
theorem bt53 : Statement .bt53 := of_code rfl rfl
theorem bt54 : Statement .bt54 := of_code rfl rfl
theorem bt55 : Statement .bt55 := of_code rfl rfl
theorem bt56 : Statement .bt56 := of_code rfl rfl
theorem bt57 : Statement .bt57 := of_code rfl rfl
theorem bt58 : Statement .bt58 := of_code rfl rfl
theorem bt59 : Statement .bt59 := of_code rfl rfl
theorem bt60 : Statement .bt60 := of_code rfl rfl
theorem bt61 : Statement .bt61 := of_code rfl rfl
theorem bt62 : Statement .bt62 := of_code rfl rfl
theorem bt63 : Statement .bt63 := of_code rfl rfl
theorem wm64 : Statement .wm64 := of_code rfl rfl
theorem wm128 : Statement .wm128 := of_code rfl rfl
theorem wm192 : Statement .wm192 := of_code rfl rfl
theorem wm256 : Statement .wm256 := of_code rfl rfl
theorem wm320 : Statement .wm320 := of_code rfl rfl
theorem wm384 : Statement .wm384 := of_code rfl rfl
theorem wm448 : Statement .wm448 := of_code rfl rfl
theorem wm512 : Statement .wm512 := of_code rfl rfl
theorem wm576 : Statement .wm576 := of_code rfl rfl
theorem wm640 : Statement .wm640 := of_code rfl rfl
theorem wm704 : Statement .wm704 := of_code rfl rfl
theorem wm768 : Statement .wm768 := of_code rfl rfl
theorem wm832 : Statement .wm832 := of_code rfl rfl
theorem wm896 : Statement .wm896 := of_code rfl rfl
theorem wm960 : Statement .wm960 := of_code rfl rfl
theorem wm1024 : Statement .wm1024 := of_code rfl rfl
theorem wm1088 : Statement .wm1088 := of_code rfl rfl
theorem wm1152 : Statement .wm1152 := of_code rfl rfl
theorem wm1216 : Statement .wm1216 := of_code rfl rfl
theorem wm1280 : Statement .wm1280 := of_code rfl rfl
theorem wm1344 : Statement .wm1344 := of_code rfl rfl
theorem wm1408 : Statement .wm1408 := of_code rfl rfl
theorem wm1472 : Statement .wm1472 := of_code rfl rfl
theorem wm1536 : Statement .wm1536 := of_code rfl rfl
theorem wm1600 : Statement .wm1600 := of_code rfl rfl
theorem wm1664 : Statement .wm1664 := of_code rfl rfl
theorem wm1728 : Statement .wm1728 := of_code rfl rfl
theorem wm1792 : Statement .wm1792 := of_code rfl rfl
theorem wm1856 : Statement .wm1856 := of_code rfl rfl
theorem wm1920 : Statement .wm1920 := of_code rfl rfl
theorem wm1984 : Statement .wm1984 := of_code rfl rfl
theorem wm2048 : Statement .wm2048 := of_code rfl rfl
theorem wm2112 : Statement .wm2112 := of_code rfl rfl
theorem wm2176 : Statement .wm2176 := of_code rfl rfl
theorem wm2240 : Statement .wm2240 := of_code rfl rfl
theorem wm2304 : Statement .wm2304 := of_code rfl rfl
theorem wm2368 : Statement .wm2368 := of_code rfl rfl
theorem wm2432 : Statement .wm2432 := of_code rfl rfl
theorem wm2496 : Statement .wm2496 := of_code rfl rfl
theorem wm2560 : Statement .wm2560 := of_code rfl rfl
theorem bm64 : Statement .bm64 := of_code rfl rfl
theorem bm128 : Statement .bm128 := of_code rfl rfl
theorem bm192 : Statement .bm192 := of_code rfl rfl
theorem bm256 : Statement .bm256 := of_code rfl rfl
theorem bm320 : Statement .bm320 := of_code rfl rfl
theorem bm384 : Statement .bm384 := of_code rfl rfl
theorem bm448 : Statement .bm448 := of_code rfl rfl
theorem bm512 : Statement .bm512 := of_code rfl rfl
theorem bm576 : Statement .bm576 := of_code rfl rfl
theorem bm640 : Statement .bm640 := of_code rfl rfl
theorem bm704 : Statement .bm704 := of_code rfl rfl
theorem bm768 : Statement .bm768 := of_code rfl rfl
theorem bm832 : Statement .bm832 := of_code rfl rfl
theorem bm896 : Statement .bm896 := of_code rfl rfl
theorem bm960 : Statement .bm960 := of_code rfl rfl
theorem bm1024 : Statement .bm1024 := of_code rfl rfl
theorem bm1088 : Statement .bm1088 := of_code rfl rfl
theorem bm1152 : Statement .bm1152 := of_code rfl rfl
theorem bm1216 : Statement .bm1216 := of_code rfl rfl
theorem bm1280 : Statement .bm1280 := of_code rfl rfl
theorem bm1344 : Statement .bm1344 := of_code rfl rfl
theorem bm1408 : Statement .bm1408 := of_code rfl rfl
theorem bm1472 : Statement .bm1472 := of_code rfl rfl
theorem bm1536 : Statement .bm1536 := of_code rfl rfl
theorem bm1600 : Statement .bm1600 := of_code rfl rfl
theorem bm1664 : Statement .bm1664 := of_code rfl rfl
theorem bm1728 : Statement .bm1728 := of_code rfl rfl
theorem bm1792 : Statement .bm1792 := of_code rfl rfl
theorem bm1856 : Statement .bm1856 := of_code rfl rfl
theorem bm1920 : Statement .bm1920 := of_code rfl rfl
theorem bm1984 : Statement .bm1984 := of_code rfl rfl
theorem bm2048 : Statement .bm2048 := of_code rfl rfl
theorem bm2112 : Statement .bm2112 := of_code rfl rfl
theorem bm2176 : Statement .bm2176 := of_code rfl rfl
theorem bm2240 : Statement .bm2240 := of_code rfl rfl
theorem bm2304 : Statement .bm2304 := of_code rfl rfl
theorem bm2368 : Statement .bm2368 := of_code rfl rfl
theorem bm2432 : Statement .bm2432 := of_code rfl rfl
theorem bm2496 : Statement .bm2496 := of_code rfl rfl
theorem bm2560 : Statement .bm2560 := of_code rfl rfl
theorem eol : Statement .eol := of_code rfl rfl
theorem reserved000000001 : Statement .reserved000000001 := of_code rfl rfl
theorem reserved0000000001 : Statement .reserved0000000001 := of_code rfl rfl
theorem reserved00000000001 : Statement .reserved00000000001 := of_code rfl rfl
theorem reserved000000000000 : Statement .reserved000000000000 := of_code rfl rfl
theorem encodeRow : Statement .encodeRow := of_none rfl
theorem decodeRow : Statement .decodeRow := of_none rfl
theorem rd (reg : Nat) : Statement (.rd reg) := of_none rfl
theorem wr (reg value : Nat) : Statement (.wr reg value) := of_none rfl
theorem wrbuf (mem : MemSel) (addr : Nat) (bytes : List Byte) : Statement (.wrbuf mem addr bytes) := of_none rfl
theorem rdbuf (mem : MemSel) (addr n : Nat) : Statement (.rdbuf mem addr n) := of_none rfl
theorem reset : Statement .reset := of_none rfl
theorem lutTerm (c : Color) (n : Nat) : Statement (.lutTerm c n) := of_none rfl
theorem lutMakeup (c : Color) (q : Nat) : Statement (.lutMakeup c q) := of_none rfl
theorem lutMaxqLe (n : Nat) : Statement (.lutMaxqLe n) := of_none rfl
theorem lutIsEol (v : BitVec 14) (l : Nat) : Statement (.lutIsEol v l) := of_none rfl
theorem lutMatchMakeup (c : Color) (v : BitVec 14) (l : Nat) : Statement (.lutMatchMakeup c v l) := of_none rfl
theorem lutMatchTerm (c : Color) (v : BitVec 14) (l : Nat) : Statement (.lutMatchTerm c v l) := of_none rfl
theorem nrOpen (w : Nat) : Statement (.nrOpen w) := of_none rfl
theorem nrRead1 : Statement .nrRead1 := of_none rfl
theorem nrRead (k : Nat) : Statement (.nrRead k) := of_none rfl
theorem nrEof : Statement .nrEof := of_none rfl
theorem twOpen : Statement .twOpen := of_none rfl
theorem twWrite (v : BitVec 13) (k : Nat) : Statement (.twWrite v k) := of_none rfl
theorem twFlush : Statement .twFlush := of_none rfl
theorem twClose : Statement .twClose := of_none rfl
theorem trOpen (m : Nat) : Statement (.trOpen m) := of_none rfl
theorem trRead1 : Statement .trRead1 := of_none rfl
theorem trRead (k : Nat) : Statement (.trRead k) := of_none rfl
theorem trEof : Statement .trEof := of_none rfl
theorem nwOpen : Statement .nwOpen := of_none rfl
theorem nwWriteRun (c : Color) (n : Nat) : Statement (.nwWriteRun c n) := of_none rfl
theorem nwClose : Statement .nwClose := of_none rfl
theorem scanInit : Statement .scanInit := of_none rfl
theorem scanPixel (b : Bool) : Statement (.scanPixel b) := of_none rfl
theorem scanEnd (w : Nat) : Statement (.scanEnd w) := of_none rfl
theorem encFlushRun (c : Color) (n : Nat) : Statement (.encFlushRun c n) := of_none rfl
theorem decInit : Statement .decInit := of_none rfl
theorem decBit (b : Bool) : Statement (.decBit b) := of_none rfl
theorem decEnd : Statement .decEnd := of_none rfl

end Sys2Proof.Laws.CodeOfInstr
end

