-- ==== Sys2Proof/Tests/Slice0.lean ====
section
/-! SUPPORT. Tests: ill-formed terms refused, every string of the stream decoded from the bits the spec prints for it,
single steps against the spec's own examples (95_test_vectors.md), and for every statement with hypotheses a concrete
case that meets them. -/

namespace Sys2Proof.Tests

open Sys2Proof Sys2Proof.Machine

-- ## Helpers

/-- The stream bits of a code written as a binary numeral of `k` digits. -/
def written : Nat → Nat → List Bool
  | 0, _ => []
  | k + 1, w => w.testBit k :: written k w

/-- Every listed string, followed by more bits, reads as its instruction and takes all its bits. -/
def readAll (st : DecState) (rows : List (Nat × Nat × Instr)) : Bool :=
  rows.all fun r => decodeBits st (written r.2.1 r.1 ++ [true, false, true]) == .instr r.2.2 r.2.1

/-- The next state, if there is one. -/
def after (o : Host.Outcome State Fault Refusal) : Option State :=
  match o with
  | .next s => some s
  | _ => none

/-- The refusal, if there is one. -/
def refusal (o : Host.Outcome State Fault Refusal) : Option Refusal :=
  match o with
  | .refused r => some r
  | _ => none

/-- Smallest parameters for rows of 16 pixels (00_scope.md R8): CODE has (8 + 6 * 16) / 8 = 13 bytes. -/
def smallCap : Config.Capacity := { maxRowBits := some 16, maxCodeBytes := some 13, lenw := some 7 }

theorem test_smallCap_legal : smallCap.legal = true ∧ Config.resetCapacity.legal = true := by decide

/-- A small block between operations, all its bytes 0. -/
def small : State :=
  { State.resetWith smallCap with
    pix := { cells := [(0, 0), (1, 0)], epoch := 0 }
    code :=
      { cells := [(0, 0), (1, 0), (2, 0), (3, 0), (4, 0), (5, 0), (6, 0)] ++
          [(7, 0), (8, 0), (9, 0), (10, 0), (11, 0), (12, 0)]
        epoch := 0 } }

/-- A small block while DECODE_ROW runs on the given first byte. -/
def decoding (x : Byte) : State :=
  { small with code := small.code.write 0 x, busy := some .decodeRow, inLen := 2, trLim := 16 }

-- ## Well-formedness: each check refuses an ill-formed term

theorem test_wf_rd : Instr.wellFormed (.rd 7) = true ∧ Instr.wellFormed (.rd 8) = false := by decide

theorem test_wf_wr : Instr.wellFormed (.wr 7 99) = true ∧ Instr.wellFormed (.wr 8 0) = false := by decide

theorem test_wf_lutTerm : Instr.wellFormed (.lutTerm .white 63) = true ∧ Instr.wellFormed (.lutTerm .white 64) = false := by
  decide

theorem test_wf_lutMakeup :
    Instr.wellFormed (.lutMakeup .black 64) = true ∧ Instr.wellFormed (.lutMakeup .black 2560) = true ∧
      Instr.wellFormed (.lutMakeup .black 0) = false ∧ Instr.wellFormed (.lutMakeup .black 65) = false ∧
      Instr.wellFormed (.lutMakeup .black 2624) = false := by decide

theorem test_wf_lutMaxqLe : Instr.wellFormed (.lutMaxqLe 64) = true ∧ Instr.wellFormed (.lutMaxqLe 63) = false := by
  decide

theorem test_wf_lutIsEol : Instr.wellFormed (.lutIsEol 1 14) = true ∧ Instr.wellFormed (.lutIsEol 1 15) = false := by
  decide

theorem test_wf_lutMatchMakeup :
    Instr.wellFormed (.lutMatchMakeup .white 1 14) = true ∧ Instr.wellFormed (.lutMatchMakeup .white 1 15) = false := by
  decide

theorem test_wf_lutMatchTerm :
    Instr.wellFormed (.lutMatchTerm .white 1 14) = true ∧ Instr.wellFormed (.lutMatchTerm .white 1 15) = false := by
  decide

theorem test_wf_nrRead :
    Instr.wellFormed (.nrRead 1) = true ∧ Instr.wellFormed (.nrRead 13) = true ∧
      Instr.wellFormed (.nrRead 0) = false ∧ Instr.wellFormed (.nrRead 14) = false := by decide

theorem test_wf_trRead :
    Instr.wellFormed (.trRead 1) = true ∧ Instr.wellFormed (.trRead 13) = true ∧
      Instr.wellFormed (.trRead 0) = false ∧ Instr.wellFormed (.trRead 14) = false := by decide

theorem test_wf_twWrite :
    Instr.wellFormed (.twWrite 7 3) = true ∧ Instr.wellFormed (.twWrite 8 3) = false ∧
      Instr.wellFormed (.twWrite 0 0) = false ∧ Instr.wellFormed (.twWrite 0 14) = false := by decide

theorem test_wf_nwWriteRun :
    Instr.wellFormed (.nwWriteRun .white 2560) = true ∧ Instr.wellFormed (.nwWriteRun .white 2561) = false := by decide

-- ## Decoding: the bits as the spec prints them

/-- White terminating codes, bits from 30_encoding.md R49. -/
theorem test_decode_white_terminating_wt0_to_wt15 :
    readAll .expectingWhiteRun
      [(0b00110101, 8, .wt0), (0b000111, 6, .wt1), (0b0111, 4, .wt2),
       (0b1000, 4, .wt3), (0b1011, 4, .wt4), (0b1100, 4, .wt5),
       (0b1110, 4, .wt6), (0b1111, 4, .wt7), (0b10011, 5, .wt8),
       (0b10100, 5, .wt9), (0b00111, 5, .wt10), (0b01000, 5, .wt11),
       (0b001000, 6, .wt12), (0b000011, 6, .wt13), (0b110100, 6, .wt14),
       (0b110101, 6, .wt15)] = true := by decide

/-- White terminating codes, bits from 30_encoding.md R49. -/
theorem test_decode_white_terminating_wt16_to_wt31 :
    readAll .expectingWhiteRun
      [(0b101010, 6, .wt16), (0b101011, 6, .wt17), (0b0100111, 7, .wt18),
       (0b0001100, 7, .wt19), (0b0001000, 7, .wt20), (0b0010111, 7, .wt21),
       (0b0000011, 7, .wt22), (0b0000100, 7, .wt23), (0b0101000, 7, .wt24),
       (0b0101011, 7, .wt25), (0b0010011, 7, .wt26), (0b0100100, 7, .wt27),
       (0b0011000, 7, .wt28), (0b00000010, 8, .wt29), (0b00000011, 8, .wt30),
       (0b00011010, 8, .wt31)] = true := by decide

/-- White terminating codes, bits from 30_encoding.md R49. -/
theorem test_decode_white_terminating_wt32_to_wt47 :
    readAll .expectingWhiteRun
      [(0b00011011, 8, .wt32), (0b00010010, 8, .wt33), (0b00010011, 8, .wt34),
       (0b00010100, 8, .wt35), (0b00010101, 8, .wt36), (0b00010110, 8, .wt37),
       (0b00010111, 8, .wt38), (0b00101000, 8, .wt39), (0b00101001, 8, .wt40),
       (0b00101010, 8, .wt41), (0b00101011, 8, .wt42), (0b00101100, 8, .wt43),
       (0b00101101, 8, .wt44), (0b00000100, 8, .wt45), (0b00000101, 8, .wt46),
       (0b00001010, 8, .wt47)] = true := by decide

/-- White terminating codes, bits from 30_encoding.md R49. -/
theorem test_decode_white_terminating_wt48_to_wt63 :
    readAll .expectingWhiteRun
      [(0b00001011, 8, .wt48), (0b01010010, 8, .wt49), (0b01010011, 8, .wt50),
       (0b01010100, 8, .wt51), (0b01010101, 8, .wt52), (0b00100100, 8, .wt53),
       (0b00100101, 8, .wt54), (0b01011000, 8, .wt55), (0b01011001, 8, .wt56),
       (0b01011010, 8, .wt57), (0b01011011, 8, .wt58), (0b01001010, 8, .wt59),
       (0b01001011, 8, .wt60), (0b00110010, 8, .wt61), (0b00110011, 8, .wt62),
       (0b00110100, 8, .wt63)] = true := by decide

/-- Black terminating codes, bits from 30_encoding.md R50. -/
theorem test_decode_black_terminating_bt0_to_bt15 :
    readAll .expectingBlackRun
      [(0b0000110111, 10, .bt0), (0b010, 3, .bt1), (0b11, 2, .bt2),
       (0b10, 2, .bt3), (0b011, 3, .bt4), (0b0011, 4, .bt5),
       (0b0010, 4, .bt6), (0b00011, 5, .bt7), (0b000101, 6, .bt8),
       (0b000100, 6, .bt9), (0b0000100, 7, .bt10), (0b0000101, 7, .bt11),
       (0b0000111, 7, .bt12), (0b00000100, 8, .bt13), (0b00000111, 8, .bt14),
       (0b000011000, 9, .bt15)] = true := by decide

/-- Black terminating codes, bits from 30_encoding.md R50. -/
theorem test_decode_black_terminating_bt16_to_bt31 :
    readAll .expectingBlackRun
      [(0b0000010111, 10, .bt16), (0b0000011000, 10, .bt17), (0b0000001000, 10, .bt18),
       (0b00001100111, 11, .bt19), (0b00001101000, 11, .bt20), (0b00001101100, 11, .bt21),
       (0b00000110111, 11, .bt22), (0b00000101000, 11, .bt23), (0b00000010111, 11, .bt24),
       (0b00000011000, 11, .bt25), (0b000011001010, 12, .bt26), (0b000011001011, 12, .bt27),
       (0b000011001100, 12, .bt28), (0b000011001101, 12, .bt29), (0b000001101000, 12, .bt30),
       (0b000001101001, 12, .bt31)] = true := by decide

/-- Black terminating codes, bits from 30_encoding.md R50. -/
theorem test_decode_black_terminating_bt32_to_bt47 :
    readAll .expectingBlackRun
      [(0b000001101010, 12, .bt32), (0b000001101011, 12, .bt33), (0b000011010010, 12, .bt34),
       (0b000011010011, 12, .bt35), (0b000011010100, 12, .bt36), (0b000011010101, 12, .bt37),
       (0b000011010110, 12, .bt38), (0b000011010111, 12, .bt39), (0b000001101100, 12, .bt40),
       (0b000001101101, 12, .bt41), (0b000011011010, 12, .bt42), (0b000011011011, 12, .bt43),
       (0b000001010100, 12, .bt44), (0b000001010101, 12, .bt45), (0b000001010110, 12, .bt46),
       (0b000001010111, 12, .bt47)] = true := by decide

/-- Black terminating codes, bits from 30_encoding.md R50. -/
theorem test_decode_black_terminating_bt48_to_bt63 :
    readAll .expectingBlackRun
      [(0b000001100100, 12, .bt48), (0b000001100101, 12, .bt49), (0b000001010010, 12, .bt50),
       (0b000001010011, 12, .bt51), (0b000000100100, 12, .bt52), (0b000000110111, 12, .bt53),
       (0b000000111000, 12, .bt54), (0b000000100111, 12, .bt55), (0b000000101000, 12, .bt56),
       (0b000001011000, 12, .bt57), (0b000001011001, 12, .bt58), (0b000000101011, 12, .bt59),
       (0b000000101100, 12, .bt60), (0b000001011010, 12, .bt61), (0b000001100110, 12, .bt62),
       (0b000001100111, 12, .bt63)] = true := by decide

/-- White makeup codes, bits from 30_encoding.md R51 and R53. -/
theorem test_decode_white_makeup_wm64_to_wm896 :
    readAll .expectingWhiteRun
      [(0b11011, 5, .wm64), (0b10010, 5, .wm128), (0b010111, 6, .wm192),
       (0b0110111, 7, .wm256), (0b00110110, 8, .wm320), (0b00110111, 8, .wm384),
       (0b01100100, 8, .wm448), (0b01100101, 8, .wm512), (0b01101000, 8, .wm576),
       (0b01100111, 8, .wm640), (0b011001100, 9, .wm704), (0b011001101, 9, .wm768),
       (0b011010010, 9, .wm832), (0b011010011, 9, .wm896)] = true := by decide

/-- White makeup codes, bits from 30_encoding.md R51 and R53. -/
theorem test_decode_white_makeup_wm960_to_wm1792 :
    readAll .expectingWhiteRun
      [(0b011010100, 9, .wm960), (0b011010101, 9, .wm1024), (0b011010110, 9, .wm1088),
       (0b011010111, 9, .wm1152), (0b011011000, 9, .wm1216), (0b011011001, 9, .wm1280),
       (0b011011010, 9, .wm1344), (0b011011011, 9, .wm1408), (0b010011000, 9, .wm1472),
       (0b010011001, 9, .wm1536), (0b010011010, 9, .wm1600), (0b011000, 6, .wm1664),
       (0b010011011, 9, .wm1728), (0b00000001000, 11, .wm1792)] = true := by decide

/-- White makeup codes, bits from 30_encoding.md R51 and R53. -/
theorem test_decode_white_makeup_wm1856_to_wm2560 :
    readAll .expectingWhiteRun
      [(0b00000001100, 11, .wm1856), (0b00000001101, 11, .wm1920), (0b000000010010, 12, .wm1984),
       (0b000000010011, 12, .wm2048), (0b000000010100, 12, .wm2112), (0b000000010101, 12, .wm2176),
       (0b000000010110, 12, .wm2240), (0b000000010111, 12, .wm2304), (0b000000011100, 12, .wm2368),
       (0b000000011101, 12, .wm2432), (0b000000011110, 12, .wm2496), (0b000000011111, 12, .wm2560)] = true := by decide

/-- Black makeup codes, bits from 30_encoding.md R52 and R53. -/
theorem test_decode_black_makeup_bm64_to_bm896 :
    readAll .expectingBlackRun
      [(0b0000001111, 10, .bm64), (0b000011001000, 12, .bm128), (0b000011001001, 12, .bm192),
       (0b000001011011, 12, .bm256), (0b000000110011, 12, .bm320), (0b000000110100, 12, .bm384),
       (0b000000110101, 12, .bm448), (0b0000001101100, 13, .bm512), (0b0000001101101, 13, .bm576),
       (0b0000001001010, 13, .bm640), (0b0000001001011, 13, .bm704), (0b0000001001100, 13, .bm768),
       (0b0000001001101, 13, .bm832), (0b0000001110010, 13, .bm896)] = true := by decide

/-- Black makeup codes, bits from 30_encoding.md R52 and R53. -/
theorem test_decode_black_makeup_bm960_to_bm1792 :
    readAll .expectingBlackRun
      [(0b0000001110011, 13, .bm960), (0b0000001110100, 13, .bm1024), (0b0000001110101, 13, .bm1088),
       (0b0000001110110, 13, .bm1152), (0b0000001110111, 13, .bm1216), (0b0000001010010, 13, .bm1280),
       (0b0000001010011, 13, .bm1344), (0b0000001010100, 13, .bm1408), (0b0000001010101, 13, .bm1472),
       (0b0000001011010, 13, .bm1536), (0b0000001011011, 13, .bm1600), (0b0000001100100, 13, .bm1664),
       (0b0000001100101, 13, .bm1728), (0b00000001000, 11, .bm1792)] = true := by decide

/-- Black makeup codes, bits from 30_encoding.md R52 and R53. -/
theorem test_decode_black_makeup_bm1856_to_bm2560 :
    readAll .expectingBlackRun
      [(0b00000001100, 11, .bm1856), (0b00000001101, 11, .bm1920), (0b000000010010, 12, .bm1984),
       (0b000000010011, 12, .bm2048), (0b000000010100, 12, .bm2112), (0b000000010101, 12, .bm2176),
       (0b000000010110, 12, .bm2240), (0b000000010111, 12, .bm2304), (0b000000011100, 12, .bm2368),
       (0b000000011101, 12, .bm2432), (0b000000011110, 12, .bm2496), (0b000000011111, 12, .bm2560)] = true := by decide

/-- EOL, bits from 30_encoding.md R54, in all four states. -/
theorem test_decode_eol :
    readAll .expectingWhiteRun [(0b000000000001, 12, .eol)] = true ∧
      readAll .whiteRunMakeupSeen [(0b000000000001, 12, .eol)] = true ∧
      readAll .expectingBlackRun [(0b000000000001, 12, .eol)] = true ∧
      readAll .blackRunMakeupSeen [(0b000000000001, 12, .eol)] = true := by decide

/-- The four reserved prefixes, bits from 30_encoding.md R58. -/
theorem test_decode_reserved :
    readAll .expectingWhiteRun
      [(0b000000001, 9, .reserved000000001), (0b0000000001, 10, .reserved0000000001),
       (0b00000000001, 11, .reserved00000000001), (0b000000000000, 12, .reserved000000000000)] = true := by decide

/-- Terminating codes are tried in the MakeupSeen states, makeup codes are not (30_encoding.md R59). -/
theorem test_decode_makeupSeen :
    readAll .whiteRunMakeupSeen [(0b00110101, 8, .wt0)] = true ∧
      readAll .blackRunMakeupSeen [(0b0000110111, 10, .bt0)] = true ∧
      decodeBits .whiteRunMakeupSeen (written 14 0b11011000000000) = .noCode := by decide

/-- The commands, bit 0 of the value written to CMD, the others ignored (30_encoding.md R60; 95_test_vectors.md 2.9). -/
theorem test_decode_commands :
    decodeCmd 0 = .encodeRow ∧ decodeCmd 1 = .decodeRow ∧ decodeCmd 2 = .encodeRow ∧ decodeCmd 3 = .decodeRow := by decide

/-- A write to CMD is the command it decodes to, a write to another register is itself (45_host_commands.md R123). -/
theorem test_hostAction_instr :
    (HostAction.wr 0 3).instr = .decodeRow ∧ (HostAction.wr 0 2).instr = .encodeRow ∧
      (HostAction.wr 2 3).instr = .wr 2 3 := by decide

/-- Whole bytes of CODE: WT8 in 19, WM1728 in B2 59 01 (95_test_vectors.md D3, D7). -/
theorem test_decode_bytes :
    decode .expectingWhiteRun [0x19] = .ok (.wt8, 5) ∧
      decode .expectingWhiteRun [0xB2, 0x59, 0x01] = .ok (.wm1728, 9) := by decide

/-- Table words (30_encoding.md R49, R50, R54; 00_scope.md R9). -/
theorem test_tableWord :
    decodeTableWord 8 0b00110101 = some .wt0 ∧ decodeTableWord 16 0b0000001100101 = some .bm1728 ∧
      decodeTableWord 16 0b000000000001 = some .eol := by decide

-- ## Single steps against 95_test_vectors.md

/-- 2.1: TERM(White, 63), TERM(Black, 0). -/
theorem test_lutTerm :
    (after (exec (.lutTerm .white 63) small)).map (·.ret) = some (.code ⟨0x34, 8⟩) ∧
      (after (exec (.lutTerm .black 0) small)).map (·.ret) = some (.code ⟨0x37, 10⟩) := by decide

/-- 2.1: MAKEUP(White, 1664), MAKEUP(Black, 1792). -/
theorem test_lutMakeup :
    (after (exec (.lutMakeup .white 1664) small)).map (·.ret) = some (.code ⟨0x18, 6⟩) ∧
      (after (exec (.lutMakeup .black 1792) small)).map (·.ret) = some (.code ⟨0x8, 11⟩) := by decide

/-- 2.1: MAXQ_LE(1791), MAXQ_LE(2624). -/
theorem test_lutMaxqLe :
    (after (exec (.lutMaxqLe 1791) small)).map (·.ret) = some (.number 1728) ∧
      (after (exec (.lutMaxqLe 2624) small)).map (·.ret) = some (.number 2560) := by decide

/-- 2.1: IS_EOL(1, 12), IS_EOL(1, 13). -/
theorem test_lutIsEol :
    (after (exec (.lutIsEol 1 12) small)).map (·.ret) = some (.truth true) ∧
      (after (exec (.lutIsEol 1 13) small)).map (·.ret) = some (.truth false) := by decide

/-- 2.1: MATCH_MAKEUP(White, 0x8, 11), MATCH_MAKEUP(White, 0x8, 4). -/
theorem test_lutMatchMakeup :
    (after (exec (.lutMatchMakeup .white 0x8 11) small)).map (·.ret) = some (.match? (some 1792)) ∧
      (after (exec (.lutMatchMakeup .white 0x8 4) small)).map (·.ret) = some (.match? none) := by decide

/-- 2.1: MATCH_TERM(White, 0x8, 7), MATCH_TERM(Black, 0x2, 5). -/
theorem test_lutMatchTerm :
    (after (exec (.lutMatchTerm .white 0x8 7) small)).map (·.ret) = some (.match? (some 20)) ∧
      (after (exec (.lutMatchTerm .black 0x2 5) small)).map (·.ret) = some (.match? none) := by decide

/-- 2.2: PIX = AA, NR.READ1 at 0 gives 1. -/
theorem test_nrRead1 :
    (after (exec .nrRead1 { small with pix := small.pix.write 0 0xAA, nrLim := 8 })).map (fun t => (t.ret, t.nrPos)) =
      some (.bit true, 1) := by decide

/-- 2.2: PIX = AA, NR.READ(5) at 3 gives 10. -/
theorem test_nrRead :
    (after (exec (.nrRead 5) { small with pix := small.pix.write 0 0xAA, nrPos := 3, nrLim := 8 })).map
      (fun t => (t.ret, t.nrPos)) = some (.number 10, 8) := by decide

/-- 2.2: TW.WRITE(0x13, 5) and then TW.WRITE(0x2, 3) leave CODE.byte[0] = 59. -/
theorem test_twWrite :
    (after (exec (.twWrite 0x13 5) small)).map (fun t => (codeByte t 0, t.twPos)) = some (0x19, 5) ∧
      (after (exec (.twWrite 0x2 3) { small with code := small.code.write 0 0x19, twPos := 5 })).map
        (fun t => (codeByte t 0, t.twPos)) = some (0x59, 8) := by decide

/-- 20_memory.md R36: the pad bits of TW.FLUSH are 0 and the bits below tw_pos stay. -/
theorem test_twFlush :
    (after (exec .twFlush { small with code := small.code.write 0 0xFF, twPos := 5 })).map
      (fun t => (codeByte t 0, t.twPos)) = some (0x1F, 8) := by decide

/-- 41_bit_accessors.md R74, R77: operands outside their range run, with every effect but the open value. -/
theorem test_outOfRange_runs :
    (after (exec (.nrRead 14) { small with nrLim := 16 })).map (fun t => (t.nrPos, t.freeCount)) = some (14, 1) ∧
      (after (exec (.twWrite 8 3) small)).map (fun t => (t.twPos, t.freeCount)) = some (3, 1) := by decide

/-- 2.2: tw_pos = 24 gives 3. -/
theorem test_twClose : (after (exec .twClose { small with twPos := 24 })).map (·.ret) = some (.number 3) := by decide

/-- 2.2: CODE = 19, TR.READ(5) gives 0x13. -/
theorem test_trRead :
    (after (exec (.trRead 5) (decoding 0x19))).map (fun t => (t.ret, t.trPos)) = some (.number 0x13, 5) := by decide

/-- 2.2: NW.WRITE_RUN(Black, 2) at 3, the pixels 00011. -/
theorem test_nwWriteRun :
    (after (exec (.nwWriteRun .black 2) { small with nwPos := 3 })).map (fun t => (pixByte t 0, t.nwPos)) =
      some (0x18, 5) := by decide

/-- 41_bit_accessors.md R86: the spare bits of the last byte become 0, and nw_pos is returned. -/
theorem test_nwClose :
    (after (exec .nwClose { small with pix := small.pix.write 1 0xFF, nwPos := 10 })).map
      (fun t => (pixByte t 1, t.ret)) = some (0xC0, .number 10) := by decide

/-- 2.3: at the first Black pixel the White run of 3 is flushed as WT3, `1000`. -/
theorem test_scanPixel :
    (after (exec (.scanPixel true) { small with runCnt := 3 })).map
      (fun t => (t.curColor, t.runCnt, codeByte t 0, t.twPos)) = some (.black, 1, 0x01, 4) := by decide

/-- 2.4: ENC.FLUSH_RUN(White, 65) writes WM64 WT1, `11011 000111`. -/
theorem test_encFlushRun :
    (after (exec (.encFlushRun .white 65) small)).map (fun t => (codeByte t 0, codeByte t 1, t.twPos)) =
      some (0x1B, 0x07, 11) := by decide

/-- 2.6: bit 1 on the accumulator 1001 matches WT8. -/
theorem test_decBit_match :
    (after (exec (.decBit true) { small with curVal := 0x9, curLen := 4 })).map
      (fun t => (t.decState, t.nwPos, t.curVal, t.curLen)) = some (.expectingBlackRun, 8, 0, 0) := by decide

/-- 2.6: the fourteenth 0 bit raises FormatError(14). -/
theorem test_decBit_formatError :
    (after (exec (.decBit false) { decoding 0 with curLen := 13, trPos := 14 })).map
      (fun t => (t.status, t.errCode, t.errPos, t.outLen)) = some (3, 1, 14, 0) := by decide

/-- D5: the step reads WT2 from CODE = 0E. -/
theorem test_step_wt2 :
    (after (step (decoding 0x0E))).map (fun t => (t.decState, t.trPos, t.nwPos)) = some (.expectingBlackRun, 4, 2) := by
  decide

/-- X2: at the end of 0E 00 in strict mode, two pixels against a width of 8. -/
theorem test_step_widthMismatch :
    (after (step { decoding 0x0E with ctrl := 1, expWidth := 8, nwPos := 2, trPos := 16 })).map
      (fun t => (t.status, t.errCode, t.errPos, t.outLen)) = some (3, 2, 16, 2) := by decide

/-- X9, in small: a row wider than PIX. -/
theorem test_encodeRow_capacityFault :
    (after (exec .encodeRow { small with inLen := 17 })).map (fun t => (t.status, t.errCode, t.errPos, t.outLen)) =
      some (3, 3, 0, 0) := by decide

/-- 2.9: WR CTRL, 3 leaves CTRL = 1; WR OUT_LEN leaves OUT_LEN. -/
theorem test_wr :
    (after (exec (.wr 2 3) small)).map (·.ctrl) = some 1 ∧ (after (exec (.wr 5 7) small)).map (·.outLen) = some 0 := by decide

/-- 2.9: WRBUF PIX, 0, AA, and RDBUF PIX, 0, 1. -/
theorem test_wrbuf_rdbuf :
    (after (exec (.wrbuf .pix 0 [0xAA]) small)).map (pixByte · 0) = some 0xAA ∧
      (after (exec (.rdbuf .pix 0 1) { small with pix := small.pix.write 0 0xAA })).map (·.ret) = some (.bytes [0xAA]) := by
  decide

/-- A word placed where the step takes its next instruction from is what the next step runs. -/
theorem test_withFetchWord :
    (after (step (State.reset.withFetchWord 8 0b00110101))).map (fun t => (t.trPos, t.decState)) =
        some (8, .expectingBlackRun) ∧
      (after (step (State.reset.withFetchWord 8 1))).map (·.busy) = some (some .decodeRow) := by decide

-- ## Every statement with hypotheses: a case that meets them

theorem witness_EncodedInstructionsDecodeToThemselves :
    (codeRefOf .wt0 = some (.term .white 0) ∧ (CodeRef.term .white 0).legalIn .whiteRunMakeupSeen = true) ∧
      (codeRefOf .bm2560 = some (.makeup .black 2560) ∧
        (CodeRef.makeup .black 2560).legalIn .expectingBlackRun = true) ∧
      (codeRefOf .reserved000000000000 = some (.reserved .zeros12) ∧
        (CodeRef.reserved .zeros12).legalIn .blackRunMakeupSeen = true) ∧
      (encodeCmd .encodeRow = some 0 ∧ encodeCmd .decodeRow = some 1) ∧
      (codeRefOf (.rd 0) = none ∧ Instr.rd 0 ≠ .encodeRow ∧ Instr.rd 0 ≠ .decodeRow) := by decide

theorem witness_EveryFourteenBitsBeginWithExactlyOneString :
    (List.replicate 14 true).length = 14 ∧ (codeInstr (.term .white 7)).isSome = true ∧
      (CodeRef.term .white 7).legalIn (.expect .white) = true ∧
      (CodeRef.term .white 7).code.bits <+: List.replicate 14 true := by decide

theorem witness_SecondMakeupCodeIsNeverMatched :
    (lutMakeup? .white 64 = some ⟨0x1B, 5⟩ ∧ 14 ≤ 5 + (List.replicate 9 false).length) ∧
      (lutMakeup? .black 2560 = some ⟨0x1F, 12⟩ ∧ ¬14 ≤ 12 + (List.replicate 1 true).length) := by decide

theorem witness_LutTermReturnsTheTerminatingCode : (0 : Nat) ≤ 63 ∧ (63 : Nat) ≤ 63 ∧ (63 : Nat) < 64 := by decide

theorem witness_LutMakeupReturnsTheMakeupCode :
    (64 % 64 = 0 ∧ 64 ≤ 64 ∧ 64 ≤ 2560) ∧ (1792 % 64 = 0 ∧ 64 ≤ 1792 ∧ 1792 ≤ 2560 ∧ 1792 ≤ 1792) ∧
      (2560 % 64 = 0 ∧ 64 ≤ 2560 ∧ 2560 ≤ 2560) ∧ (65 % 64 ≠ 0) ∧ (0 < 64) ∧ (2560 < 2624) := by decide

theorem witness_LutMaxqLeReturnsTheLargestQuantum :
    (64 ≤ 64 ∧ (lutMakeup? .black 64).isSome = true) ∧ (64 ≤ 2624 ∧ (lutMakeup? .white 2560).isSome = true ∧ 2560 ≤ 2624) ∧
      63 < 64 := by decide

theorem witness_LutIsEolHoldsForOneAndTwelveOnly : (12 : Nat) ≤ 14 ∧ (14 : Nat) ≤ 14 := by decide

theorem witness_LutMatchesInvertTheTable :
    (lutTerm? .white 63 = some ⟨0x34, 8⟩ ∧ ¬(4 ≤ 9 ∧ 9 ≤ 8) ∧ ¬(2 ≤ 1 ∧ 1 ≤ 12)) ∧
      (lutMakeup? .black 64 = some ⟨0xF, 10⟩ ∧ 10 ∉ [5, 6, 7, 8, 9, 11, 12] ∧ 9 ∉ [10, 11, 12, 13]) := by decide

theorem witness_NaturalReaderOpensReadsAndEnds :
    Config.within 16 small.cap.maxRowBits = true ∧
      (let s : State := { small with nrPos := 15, nrLim := 16 }; s.nrPos < s.nrLim) ∧
      (let s : State := { small with nrPos := 16, nrLim := 16 }; s.nrPos = s.nrLim) := by decide;

theorem witness_TransmissionReaderOpensReadsAndEnds :
    Config.within 13 small.cap.maxCodeBytes = true ∧
      (let s : State := { small with trPos := 103, trLim := 104 }; s.trPos < s.trLim) ∧
      (let s : State := { small with trPos := 104, trLim := 104 }; s.trPos = s.trLim) := by decide;

theorem witness_MultiBitReadsAssembleMostSignificantFirst :
    (let s : State := { small with nrPos := 3, nrLim := 16 }; 1 ≤ 13 ∧ 13 ≤ 13 ∧ s.nrPos + 13 ≤ s.nrLim) ∧
      (let s : State := { small with trPos := 103, trLim := 104 }; 1 ≤ 1 ∧ 1 ≤ 13 ∧ s.trPos + 1 ≤ s.trLim) ∧
      (let s : State := { small with nrPos := 4, nrLim := 16 }; 1 ≤ 13 ∧ 13 ≤ 13 ∧ s.nrLim < s.nrPos + 13) ∧
      (let s : State := { small with trPos := 104, trLim := 104 }; 1 ≤ 1 ∧ 1 ≤ 13 ∧ s.trLim < s.trPos + 1) := by decide;

theorem witness_TransmissionWriterWritesMostSignificantBitFirst :
    (1 ≤ 13 ∧ 13 ≤ 13 ∧ (0x1FFF : BitVec 13).toNat < 2 ^ 13 ∧ twRoom 13 { small with twPos := 91 } = true) ∧
      (1 ≤ 1 ∧ 1 ≤ 13 ∧ (1 : BitVec 13).toNat < 2 ^ 1 ∧ twRoom 1 { small with twPos := 104 } = false) := by decide

theorem witness_FlushPadsToAByteAndCloseCountsBytes :
    twRoom ((8 - 97 % 8) % 8) { small with twPos := 97 } = true ∧ twRoom ((8 - 104 % 8) % 8) { small with twPos := 104 } = true ∧
      104 % 8 = 0 ∧ 97 % 8 ≠ 0 := by decide

theorem witness_WrittenCodeReadsBack :
    1 ≤ 5 ∧ 5 ≤ 13 ∧ (0x13 : BitVec 13).toNat < 2 ^ 5 ∧ twRoom 5 small = true ∧ small.twPos + 5 ≤ 5 ∧
      (after (exec (.twWrite 0x13 5) small)).isSome = true := by decide

theorem witness_NaturalWriterWritesARun :
    (let s : State := { small with nwPos := 14 }; Config.within (s.nwPos + 2) s.cap.maxRowBits = true) ∧
      (let s : State := { small with nwPos := 16 }; Config.within (s.nwPos + 0) s.cap.maxRowBits = true) := by decide;

theorem witness_NaturalWriterClosesTheLastByteWithZeros : ({ small with nwPos := 16 } : State).nwPos % 8 = 0 := by decide

theorem witness_ScannerCountsAndFlushes :
    (true = true ↔ ({ small with curColor := .black } : State).curColor = .black) ∧
      (¬(true = true ↔ small.curColor = .black) ∧
        twRoom ((runCodes small.curColor small.runCnt).flatMap Code.bits).length small = true) ∧
      (0 < 1 ∧ (let s : State := { small with twPos := 96 };
        twRoom ((runCodes s.curColor s.runCnt).flatMap Code.bits).length s = true)) := by decide

theorem witness_FlushRunWritesTheCodesOfTheRun :
    twRoom ((runCodes .black 63).flatMap Code.bits).length { small with twPos := 92 } = true ∧
      twRoom ((runCodes .white 2624).flatMap Code.bits).length small = true := by decide

theorem witness_OneMakeupCodeExactlyUpToRoundTripLimit : ([true, false] : List Bool).length ≤ 2623 := by decide

theorem witness_RunsOfARowCoverIt :
    (runsOf [true, true, false])[0]? = some (.white, 0) ∧ (runsOf [true, true, false])[2]? = some (.white, 1) ∧
      0 < 2 := by decide

theorem witness_EncodedRowIsShort : [true] ≠ ([] : List Bool) := by decide

theorem witness_DecBitOnEolAndOnNoMatch :
    (let s : State := { small with curVal := 0, curLen := 11 };
      (1 : BitVec 14) = BitVec.ofNat 14 (2 * s.curVal.toNat + bitNat true) ∧ 12 = s.curLen + 1 ∧ 12 ≤ 13) ∧
    (let s : State := { small with curVal := 0, curLen := 12 };
      (0 : BitVec 14) = BitVec.ofNat 14 (2 * s.curVal.toNat + bitNat false) ∧ 13 = s.curLen + 1 ∧ 13 ≤ 13 ∧
        ¬((0 : BitVec 14) = 1 ∧ 13 = 12) ∧ matchMakeup s.decState.color 0 13 = none ∧
        matchTerm s.decState.color 0 13 = none) := by decide

theorem witness_DecBitEmitsMatchedRuns :
    (let s : State := { State.reset with curVal := 0xD, curLen := 4 };
      (0x1B : BitVec 14) = BitVec.ofNat 14 (2 * s.curVal.toNat + bitNat true) ∧ 5 = s.curLen + 1 ∧ 5 ≤ 13 ∧
        s.decState.expecting = true ∧ matchMakeup s.decState.color 0x1B 5 = some 64 ∧
        Config.within (s.nwPos + 64) s.cap.maxRowBits = true) ∧
    (let s : State := { small with curVal := 0x9, curLen := 4, nwPos := 8 };
      (0x13 : BitVec 14) = BitVec.ofNat 14 (2 * s.curVal.toNat + bitNat true) ∧ 5 = s.curLen + 1 ∧ 5 ≤ 13 ∧
        matchMakeup s.decState.color 0x13 5 = none ∧ matchTerm s.decState.color 0x13 5 = some 8 ∧
        Config.within (s.nwPos + 8) s.cap.maxRowBits = true) := by decide

theorem witness_FourteenthBitRaisesFormatError : ({ small with curLen := 13 } : State).curLen = 13 := by decide

theorem witness_RunThatDoesNotFitRaisesCapacityFault :
    Config.within (small.nwPos + 17) small.cap.maxRowBits = false ∧
      (let s : State := { decoding 0x1B with nwPos := 0 };
        codeRefOf .wm64 = some (.makeup .white 64) ∧ (CodeRef.makeup .white 64).legalIn s.decState = true ∧
          s.curVal = 0 ∧ s.curLen = 0 ∧ s.trPos + (CodeRef.makeup .white 64).code.len ≤ s.trLim ∧
          Config.within (s.nwPos + 64) s.cap.maxRowBits = false) ∧
      (let s : State := { decoding 0x0E with nwPos := 15 };
        codeRefOf .wt2 = some (.term .white 2) ∧ (CodeRef.term .white 2).legalIn s.decState = true ∧
          s.curVal = 0 ∧ s.curLen = 0 ∧ s.trPos + (CodeRef.term .white 2).code.len ≤ s.trLim ∧
          Config.within (s.nwPos + 2) s.cap.maxRowBits = false) := by decide

theorem witness_TerminatingCodeEndsARun :
    (let s : State := { decoding 0x0E with nwPos := 14, trPos := 12 };
      codeRefOf .wt2 = some (.term .white 2) ∧ s.decState = .expectingWhiteRun ∧ s.curVal = 0 ∧ s.curLen = 0 ∧
        s.trPos + (termCode .white 2).len ≤ s.trLim ∧ Config.within (s.nwPos + 2) s.cap.maxRowBits = true) ∧
    (let s : State := { decoding 0 with nwPos := 16, decState := .blackRunMakeupSeen };
      codeRefOf .bt0 = some (.term .black 0) ∧ s.decState = .blackRunMakeupSeen ∧ s.curVal = 0 ∧ s.curLen = 0 ∧
        s.trPos + (termCode .black 0).len ≤ s.trLim ∧ Config.within (s.nwPos + 0) s.cap.maxRowBits = true) := by decide

theorem witness_MakeupCodeOpensARun :
    (let s : State := { decoding 0x1B with cap := Config.resetCapacity };
      codeRefOf .wm64 = some (.makeup .white 64) ∧ s.decState = .expectingWhiteRun ∧ s.curVal = 0 ∧ s.curLen = 0 ∧
        s.trPos + (makeupCode .white 64).len ≤ s.trLim ∧ Config.within (s.nwPos + 64) s.cap.maxRowBits = true) ∧
    (let s : State := { decoding 0 with cap := Config.resetCapacity, decState := .expectingBlackRun, trPos := 4 };
      codeRefOf .bm2560 = some (.makeup .black 2560) ∧ s.decState = .expectingBlackRun ∧ s.curVal = 0 ∧ s.curLen = 0 ∧
        s.trPos + (makeupCode .black 2560).len ≤ s.trLim ∧
        Config.within (s.nwPos + 2560) s.cap.maxRowBits = true) := by decide

theorem witness_EolResynchronisesAndKeepsPixels :
    (let s : State := { decoding 0 with trPos := 4 }; s.curVal = 0 ∧ s.curLen = 0 ∧ s.trPos + 12 ≤ s.trLim) := by decide;

theorem witness_ReservedPrefixEndsInFormatError :
    (let s : State := { decoding 0 with trPos := 2 };
      codeRefOf .reserved000000000000 = some (.reserved .zeros12) ∧ s.curVal = 0 ∧ s.curLen = 0 ∧
        s.trPos + 14 ≤ s.trLim) ∧
    (let s : State := { decoding 0 with trPos := 3 };
      codeRefOf .reserved000000001 = some (.reserved .zeros8one) ∧ s.curVal = 0 ∧ s.curLen = 0 ∧
        s.trPos + (ReservedPrefix.zeros8one).code.len ≤ s.trLim ∧ s.trLim < s.trPos + 14) := by decide

theorem witness_DecEndReportsTheWidth :
    (let s : State := { decoding 0 with trPos := 16, ctrl := 1, nwPos := 8, expWidth := 8 };
      s.busy = some .decodeRow ∧ s.trPos = s.trLim ∧ (s.ctrl = 0 ∨ s.nwPos = s.expWidth)) ∧
    (let s : State := { decoding 0 with trPos := 16, ctrl := 1, nwPos := 9, expWidth := 8 };
      s.busy = some .decodeRow ∧ s.trPos = s.trLim ∧ s.ctrl = 1 ∧ s.nwPos ≠ s.expWidth) := by decide

theorem witness_StringStepEqualsBitSteps :
    (let s := decoding 0x0E; s.busy = some .decodeRow ∧ s.trPos < s.trLim) := by decide;

theorem witness_EncodeRowStartsOrRaisesCapacityFault :
    (let s : State := { small with inLen := 16 }; s.busy = none ∧ Config.within s.inLen s.cap.maxRowBits = true) ∧
      (let s : State := { small with inLen := 17 }; s.busy = none ∧ Config.within s.inLen s.cap.maxRowBits = false) := by
  decide

theorem witness_DecodeRowStartsOrRaisesCapacityFault :
    (let s : State := { small with inLen := 13 }; s.busy = none ∧ Config.within s.inLen s.cap.maxCodeBytes = true) ∧
      (let s : State := { small with inLen := 14 }; s.busy = none ∧ Config.within s.inLen s.cap.maxCodeBytes = false) := by
  decide

theorem witness_RegisterReadsReturnTheRegisters : small.busy = none ∧ 7 < 8 := by decide

theorem witness_RegisterWritesKeepTheWidth :
    small.busy = none ∧ 2 % 2 = 0 ∧ 3 % 2 = 1 ∧ 7 < 8 ∧
      (small.cap.lenw = some 7 ∧ 2 = 130 % 2 ^ 7) ∧ State.reset.cap.lenw = none := by decide

theorem witness_BufferAccessMovesBytes :
    (small.busy = none ∧ Config.within (12 + ([0xAA] : List Byte).length) (memSize .code small) = true) ∧
      Config.within (0 + 2) (memSize .pix small) = true ∧
      (([0xAA] : List Byte) ≠ [] ∧ Config.within (13 + ([0xAA] : List Byte).length) (memSize .code small) = false) ∧
      (0 < 1 ∧ Config.within (2 + 1) (memSize .pix small) = false) := by decide

theorem witness_HostActionsWaitForTheOperation :
    (decoding 0x0E).busy ≠ none ∧ (after (step (decoding 0x0E))).isSome = true := by decide

theorem witness_StepRunsTheDecodedInstruction :
    (let s := decoding 0x0E;
      s.busy = some .decodeRow ∧ s.curVal = 0 ∧ s.curLen = 0 ∧ s.trPos < s.trLim ∧
        decodeBits s.decState ((List.range (min 14 (s.trLim - s.trPos))).map fun j => codeBit s (s.trPos + j)) =
          .instr .wt2 4) ∧
    (let s : State := { small with busy := some .encodeRow, nrPos := 15, nrLim := 16 };
      s.busy = some .encodeRow ∧ s.nrPos < s.nrLim) ∧
    (let s : State := { small with pending := [.rd 1] }; s.busy = none ∧ s.pending = HostAction.rd 1 :: []) ∧
    (small.busy = none ∧ small.pending = []) := by decide

theorem witness_EndOfInputEndsTheOperation :
    (let s : State := { decoding 0 with trPos := 16 }; s.busy = some .decodeRow ∧ s.trPos = s.trLim ∧ s.ctrl = 0) ∧
      (let s : State := { decoding 0 with trPos := 16, ctrl := 1, nwPos := 9, expWidth := 8 };
        s.busy = some .decodeRow ∧ s.trPos = s.trLim ∧ s.ctrl = 1 ∧ s.nwPos ≠ s.expWidth) := by decide

theorem witness_EveryStepKeepsTheInvariant :
    Inv (decoding 0x0E) ∧ (after (step (decoding 0x0E))).isSome = true :=
  ⟨⟨by decide, by decide, by decide, by decide, by decide, by decide, by decide, by decide, by decide, by decide,
    by decide, by decide, by decide⟩, by decide⟩

theorem witness_EveryStepKeepsStatusConsistent :
    ResultsAgree (decoding 0x0E) ∧ (after (step (decoding 0x0E))).isSome = true :=
  ⟨⟨by decide, by decide, by decide⟩, by decide⟩

theorem witness_OnlyResetClearsDone :
    (let s : State := { small with status := 1, pending := [.reset] };
      s.done = true ∧ (after (step s)).map State.done = some false) := by decide

theorem witness_OperationsLeaveHostRegistersAndTheirInput :
    ((decoding 0x0E).busy ≠ none ∧ (decoding 0x0E).busy = some .decodeRow ∧
      (after (step (decoding 0x0E))).isSome = true) ∧
    (let s : State := { small with busy := some .encodeRow, nrPos := 15, nrLim := 16, runCnt := 15 };
      s.busy ≠ none ∧ s.busy = some .encodeRow ∧ (after (step s)).isSome = true) := by decide

theorem witness_EncodeRowNeverRunsOutOfCode :
    let s : State := { small with busy := some .encodeRow, nrPos := 15, nrLim := 16, runCnt := 1, twPos := 92 }
    s.cap.codeHoldsRow = true ∧ s.busy = some .encodeRow ∧ s.nrPos ≤ s.nrLim ∧
      Config.within s.nrLim s.cap.maxRowBits = true ∧ EncodeRoom s :=
  ⟨by decide, by decide, by decide, by decide, fun _ => ⟨by decide, by decide⟩⟩

theorem witness_EncodeRowWritesTheCodesOfTheRow :
    let s : State := { small with inLen := 16, pending := [.wr 0 2, .rd 5] }
    s.busy = none ∧ s.pending = HostAction.wr 0 2 :: [.rd 5] ∧ (HostAction.wr 0 2).instr = .encodeRow ∧ Config.within s.inLen s.cap.maxRowBits = true ∧
      s.cap.codeHoldsRow = true := by decide

theorem witness_DecodeRowEnds :
    (let s := decoding 0x0E; s.busy = some .decodeRow ∧ s.trPos ≤ s.trLim) ∧
      (let s : State := { decoding 0x0E with trPos := 16 }; s.busy = some .decodeRow ∧ s.trPos ≤ s.trLim) := by decide;

theorem witness_DecodeRowDependsOnItsInputsOnly :
    let s : State := { small with inLen := 1, code := small.code.write 0 0x0E, pending := [.wr 0 1] }
    let s' : State := { s with status := 3, errCode := 1, outLen := 9, decState := .blackRunMakeupSeen, curLen := 5, nwPos := 7 }
    AboutToRun .decodeRow s ∧ AboutToRun .decodeRow s' ∧ SameDecodeInputs s s' ∧ 0 < 4 ∧
      ∃ t, Host.Core.run core 4 s = .next t ∧ t.busy = none :=
  ⟨⟨rfl, _, rfl, rfl⟩, ⟨rfl, _, rfl, rfl⟩, ⟨rfl, rfl, rfl, rfl, fun _ _ => rfl⟩, by decide, ⟨_, rfl, rfl⟩⟩

theorem witness_RowsRoundTrip :
    let s : State := { small with inLen := 5, pix := small.pix.write 0 0x18, pending := [.wr 0 0] }
    AboutToRun .encodeRow s ∧ Config.within s.inLen s.cap.maxRowBits = true ∧ s.cap.codeHoldsRow = true ∧
      ∀ run ∈ maximalRuns (rowPixels s s.inLen), run.2 ≤ 2623 :=
  ⟨⟨rfl, _, rfl, rfl⟩, by decide, by decide, by decide⟩

theorem witness_OperandsOutsideTheirRangeStillRun :
    (Config.within 17 small.cap.maxRowBits = false ∧ Config.within 14 small.cap.maxCodeBytes = false) ∧
      (let s : State := { small with nrPos := 2, nrLim := 16, trPos := 104, trLim := 104 };
        s.nrPos + 14 ≤ s.nrLim ∧ s.trLim < s.trPos + 14 ∧ s.trPos + 0 ≤ s.trLim ∧ 13 < 14) ∧
      (let s : State := { small with nrPos := 3, nrLim := 16 }; s.nrLim < s.nrPos + 14) ∧
      (2 ^ 3 ≤ (8 : BitVec 13).toNat ∧ twRoom 3 { small with twPos := 101 } = true ∧
        twRoom 3 { small with twPos := 102 } = false ∧ twRoom 0 { small with twPos := 104 } = true) := by decide

theorem witness_HostActionsAreTheFiveKinds :
    let s : State := { small with pending := [.wr 2 3, .rd 1] }
    s.busy = none ∧ s.pending = HostAction.wr 2 3 :: [.rd 1] ∧ (after (step s)).map (·.ctrl) = some 1 ∧
      (HostAction.wr 2 3).instr ≠ .encodeRow ∧ (HostAction.wr 2 3).instr ≠ .decodeRow ∧
      (HostAction.wr 2 3).instr ≠ .reset := by decide

end Sys2Proof.Tests
end

section
/-! SUPPORT. The strings of the stream: what the lookups of the Code Table and `stringAt` say of the accumulated bits, and
that strings and the instructions they are read as determine each other. -/

namespace Sys2Proof

-- ## A string and its instruction

/-- A list of instructions that stands for the strings `f 0, f 1, …`, read at one index. -/
theorem codeRefOf_of_getElem? {is : List Instr} {m n : Nat} {f : Nat → CodeRef} {i : Instr}
    (hmap : is.map codeRefOf = (List.range m).map fun j => some (f j)) (h : is[n]? = some i) :
    codeRefOf i = some (f n) := by
  have hn : n < m := by
    have hlen : is.length = m := by simpa using congrArg List.length hmap
    exact hlen ▸ (List.getElem?_eq_some_iff.1 h).1
  have hget : (is.map codeRefOf)[n]? = some (codeRefOf i) := by rw [List.getElem?_map, h]; rfl
  rw [hmap, List.getElem?_map, List.getElem?_range hn] at hget
  exact (Option.some.inj hget).symm

theorem map_codeRefOf_whiteTermInstrs :
    whiteTermInstrs.map codeRefOf = (List.range 64).map fun n => some (.term .white n) := rfl

theorem map_codeRefOf_blackTermInstrs :
    blackTermInstrs.map codeRefOf = (List.range 64).map fun n => some (.term .black n) := rfl

theorem map_codeRefOf_whiteMakeupInstrs :
    whiteMakeupInstrs.map codeRefOf = (List.range 40).map fun j => some (.makeup .white (64 * (j + 1))) := rfl

theorem map_codeRefOf_blackMakeupInstrs :
    blackMakeupInstrs.map codeRefOf = (List.range 40).map fun j => some (.makeup .black (64 * (j + 1))) := rfl

theorem isQuantum_iff (q : Nat) : isQuantum q = true ↔ ∃ j, j < 40 ∧ q = 64 * (j + 1) := by
  simp only [isQuantum, Bool.and_eq_true, beq_iff_eq, decide_eq_true_eq]
  simp only [Config.quantum, Config.maxQ]
  constructor
  · rintro ⟨⟨hmod, hlow⟩, hhigh⟩
    exact ⟨q / 64 - 1, by omega, by omega⟩
  · rintro ⟨j, hj, rfl⟩
    omega

/-- The index under which the quantum `64 * (j + 1)` is kept. -/
theorem quantum_index (j : Nat) : 64 * (j + 1) / Config.quantum - 1 = j := by
  simp only [Config.quantum]
  omega

/-- The instruction a string is read as stands for that string. -/
theorem codeRefOf_codeInstr {r : CodeRef} {i : Instr} (h : codeInstr r = some i) : codeRefOf i = some r := by
  cases r with
  | term c n =>
    cases c with
    | white => exact codeRefOf_of_getElem? map_codeRefOf_whiteTermInstrs h
    | black => exact codeRefOf_of_getElem? map_codeRefOf_blackTermInstrs h
  | makeup c q =>
    have hq : isQuantum q = true := by
      by_contra hq
      cases c <;> simp [codeInstr, hq] at h
    obtain ⟨j, -, rfl⟩ := (isQuantum_iff q).1 hq
    cases c with
    | white =>
      simp only [codeInstr, hq, if_true, quantum_index] at h
      exact codeRefOf_of_getElem? (f := fun j => .makeup .white (64 * (j + 1))) map_codeRefOf_whiteMakeupInstrs h
    | black =>
      simp only [codeInstr, hq, if_true, quantum_index] at h
      exact codeRefOf_of_getElem? (f := fun j => .makeup .black (64 * (j + 1))) map_codeRefOf_blackMakeupInstrs h
  | eol => cases h; rfl
  | reserved p => cases p <;> (cases h; rfl)

theorem codeInstr_term_isSome {c : Color} {n : Nat} (hn : n < 64) : (codeInstr (.term c n)).isSome = true := by
  cases c with
  | white => simpa [codeInstr, whiteTermInstrs] using hn
  | black => simpa [codeInstr, blackTermInstrs] using hn

theorem codeInstr_makeup_isSome {c : Color} {j : Nat} (hj : j < 40) :
    (codeInstr (.makeup c (64 * (j + 1)))).isSome = true := by
  have hq : isQuantum (64 * (j + 1)) = true := (isQuantum_iff _).2 ⟨j, hj, rfl⟩
  cases c with
  | white => simpa [codeInstr, hq, quantum_index, whiteMakeupInstrs] using hj
  | black => simpa [codeInstr, hq, quantum_index, blackMakeupInstrs] using hj

theorem codeInstr_reserved_isSome (p : ReservedPrefix) : (codeInstr (.reserved p)).isSome = true := by
  cases p <;> rfl

-- ## The lookups (40_lut_rom.md R67 to R69)

theorem Code.matchesAcc_iff (k : Code) (v : BitVec 14) (l : Nat) :
    k.matchesAcc v l = true ↔ k.len = l ∧ k.value.setWidth 14 = v := by
  simp [Code.matchesAcc]

theorem length_termTable (c : Color) : (termTable c).length = 64 := by cases c <;> rfl

theorem length_makeupTable (c : Color) : (makeupTable c).length = 40 := by cases c <;> rfl

theorem matchTerm_sound {c : Color} {v : BitVec 14} {l n : Nat} (h : matchTerm c v l = some n) :
    n < 64 ∧ (termCode c n).matchesAcc v l = true := by
  obtain ⟨hn, hmatch, -⟩ := List.findIdx?_eq_some_iff_getElem.1 h
  exact ⟨length_termTable c ▸ hn, by simpa [termCode, lutTerm?, List.getElem?_eq_getElem hn] using hmatch⟩

theorem matchMakeup_sound {c : Color} {v : BitVec 14} {l q : Nat} (h : matchMakeup c v l = some q) :
    (∃ j, j < 40 ∧ q = 64 * (j + 1)) ∧ (makeupCode c q).matchesAcc v l = true := by
  obtain ⟨j, hfind, rfl⟩ := Option.map_eq_some_iff.1 h
  obtain ⟨hj, hmatch, -⟩ := List.findIdx?_eq_some_iff_getElem.1 hfind
  have hj40 : j < 40 := length_makeupTable c ▸ hj
  have hq : isQuantum (64 * (j + 1)) = true := (isQuantum_iff _).2 ⟨j, hj40, rfl⟩
  refine ⟨⟨j, hj40, rfl⟩, ?_⟩
  show (makeupCode c (64 * (j + 1))).matchesAcc v l = true
  simpa only [makeupCode, lutMakeup?, hq, if_true, quantum_index, List.getElem?_eq_getElem hj,
    Option.getD_some] using hmatch

-- ## The string the accumulated bits are

/-- The string that `stringAt` names has the accumulated bits, is read in the state, and is an instruction. -/
theorem stringAt_sound {st : DecState} {v : BitVec 14} {l : Nat} {r : CodeRef} (h : stringAt st v l = some r) :
    r.code.matchesAcc v l = true ∧ r.legalIn st = true ∧ (codeInstr r).isSome = true := by
  unfold stringAt at h
  split at h
  next heol =>
    cases h
    exact ⟨heol, rfl, rfl⟩
  next =>
    split at h
    next q hq =>
      cases h
      split at hq
      next hexp =>
        obtain ⟨⟨j, hj, rfl⟩, hmatch⟩ := matchMakeup_sound hq
        exact ⟨hmatch, by simp [CodeRef.legalIn, hexp], codeInstr_makeup_isSome hj⟩
      next => cases hq
    next =>
      split at h
      next n hn =>
        cases h
        obtain ⟨hlt, hmatch⟩ := matchTerm_sound hn
        exact ⟨hmatch, by simp [CodeRef.legalIn], codeInstr_term_isSome hlt⟩
      next =>
        obtain ⟨p, hp, rfl⟩ := Option.map_eq_some_iff.1 h
        have hmatch := List.find?_some hp
        exact ⟨hmatch, rfl, codeInstr_reserved_isSome p⟩

/-- An Expecting state is that of its colour. -/
theorem DecState.expect_color {st : DecState} (h : st.expecting = true) : DecState.expect st.color = st := by
  revert h
  cases st <;> decide

/-- A makeup code that is read in a state is read in the Expecting state of its colour. -/
theorem legalIn_makeup {st : DecState} {c : Color} {q : Nat} (h : (CodeRef.makeup c q).legalIn st = true) :
    st = .expect c := by
  obtain ⟨rfl, hexp⟩ : c = st.color ∧ st.expecting = true := by simpa [CodeRef.legalIn] using h
  exact (DecState.expect_color hexp).symm

/-- The instruction that `instrAt` names stands for the string that `stringAt` names. -/
theorem instrAt_eq_some {st : DecState} {v : BitVec 14} {l : Nat} {i : Instr} (h : instrAt st v l = some i) :
    ∃ r, stringAt st v l = some r ∧ codeRefOf i = some r := by
  obtain ⟨r, hr, hi⟩ := Option.bind_eq_some_iff.1 h
  exact ⟨r, hr, codeRefOf_codeInstr hi⟩

/-- Where no instruction is named there is no string: every string is an instruction. -/
theorem stringAt_eq_none_of_instrAt {st : DecState} {v : BitVec 14} {l : Nat} (h : instrAt st v l = none) :
    stringAt st v l = none := by
  cases hr : stringAt st v l with
  | none => rfl
  | some r =>
    obtain ⟨-, -, hsome⟩ := stringAt_sound hr
    rw [instrAt, hr, Option.bind_some] at h
    rw [h] at hsome
    cases hsome

theorem length_bitsMsbFirst (k : Nat) (v : BitVec 13) : (bitsMsbFirst k v).length = k := by
  induction k with
  | zero => rfl
  | succ k ih => rw [bitsMsbFirst, List.length_cons, ih]

theorem Code.length_bits (k : Code) : k.bits.length = k.len := length_bitsMsbFirst k.len k.value

theorem ReservedPrefix.len_bounds (p : ReservedPrefix) : 0 < p.code.len ∧ p.code.len ≤ 13 := by
  cases p <;> decide

/-- The bits of a reserved prefix, read from an empty accumulator, are that prefix and no shorter string. -/
theorem decodeBits_reserved (st : DecState) (p : ReservedPrefix) :
    ∃ i, codeInstr (.reserved p) = some i ∧ decodeBits st p.code.bits = .instr i p.code.bits.length := by
  cases p <;> exact ⟨_, rfl, by cases st <;> decide⟩

end Sys2Proof
end

section
/-! SUPPORT. The decoder bit by bit: what one DEC.BIT comes to in terms of the string the accumulated bits are, and the
two loops over it, `feedBits` and `readOn`. -/

namespace Sys2Proof.Machine

-- ## The accumulator

/-- A state with another accumulator: what DEC.BIT leaves when nothing matches. -/
def withAcc (v : BitVec 14) (l : Nat) (s : State) : State := { s with curVal := v, curLen := l }

theorem shiftIn_eq_withAcc (b : Bool) (s : State) :
    shiftIn b s = withAcc (shiftBit s.curVal b) (s.curLen + 1) s := rfl

theorem withAcc_trAdvance_shiftIn (v : BitVec 14) (l n : Nat) (b : Bool) (s : State) :
    withAcc v l (trAdvance n (shiftIn b (trAdvance 1 s))) = withAcc v l (trAdvance (n + 1) s) := by
  simp only [withAcc, trAdvance, shiftIn, State.mk.injEq, true_and, and_true]
  omega

/-- A bit read into the accumulator leaves the stream as it is. -/
theorem streamBits_shiftIn_trAdvance (b : Bool) (n : Nat) (s : State) (pos k : Nat) :
    streamBits (shiftIn b (trAdvance n s)) pos k = streamBits s pos k := by
  induction k generalizing pos with
  | zero => rfl
  | succ k ih => simp only [streamBits, ih]; rfl

theorem nwPut_withAcc (c : Color) (n : Nat) (v : BitVec 14) (l : Nat) (s : State) :
    nwPut c n (withAcc v l s) = withAcc v l (nwPut c n s) := by
  induction n generalizing s with
  | zero => rfl
  | succ n ih =>
    rw [nwPut, nwPut, ← ih]
    rfl

/-- A run and its transition do not depend on the accumulator, which they empty. -/
theorem emitRun_withAcc (c : Color) (n : Nat) (st : DecState) (v : BitVec 14) (l : Nat) (s : State) :
    emitRun c n st (withAcc v l s) = emitRun c n st s := by
  have hfits : nwFits n (withAcc v l s) = nwFits n s := rfl
  unfold emitRun nwWriteRun
  rw [hfits, nwPut_withAcc]
  cases nwFits n s <;> rfl

/-- A run that is written leaves the accumulator empty. -/
theorem emitRun_goes_curLen {c : Color} {n : Nat} {st : DecState} {s t : State} (h : emitRun c n st s = .goes t) :
    t.curLen = 0 := by
  rcases emitRun_cases c n st s with ⟨-, heq⟩ | ⟨-, heq⟩
  · rw [heq] at h
    cases h
    rfl
  · rw [heq] at h
    cases h

-- ## The transition of a string (44_decoder.md R105 to R109)

/-- What DEC.BIT does once the accumulated bits are a string: a reserved prefix matches nothing and is only kept. -/
def transition : CodeRef → State → DecRun
  | .term c n, s => emitTerm c n s
  | .makeup c q, s => emitMakeup c q s
  | .eol, s => emitEol s
  | .reserved _, s => .goes s

/-- DEC.BIT after its shift, up to 13 bits: the transition of the string the accumulated bits are, or nothing. -/
theorem afterShift_eq {s : State} (hlen : s.curLen ≤ 13) :
    afterShift s = ((stringAt s.decState s.curVal s.curLen).map (transition · s)).getD (.goes s) := by
  have hgt : ¬ s.curLen > Config.maxCodeLen := by simpa [Config.maxCodeLen] using hlen
  unfold afterShift matchCodes stringAt
  rw [if_neg hgt]
  split
  next => rfl
  next =>
    cases (if s.decState.expecting then matchMakeup s.decState.color s.curVal s.curLen else none) with
    | some q => rfl
    | none =>
      cases matchTerm s.decState.color s.curVal s.curLen with
      | some n => rfl
      | none => cases matchReserved s.curVal s.curLen <;> rfl

/-- DEC.BIT where the bits are no instruction yet: they are accumulated. -/
theorem decBit_of_instrAt_eq_none {b : Bool} {s : State} (hlen : s.curLen + 1 ≤ 13)
    (h : instrAt s.decState (shiftBit s.curVal b) (s.curLen + 1) = none) :
    decBit b (trAdvance 1 s) = .goes (shiftIn b (trAdvance 1 s)) := by
  have hnone := stringAt_eq_none_of_instrAt h
  rw [decBit, afterShift_eq (by simpa using hlen)]
  simp [hnone]

/-- DEC.BIT where the bits have become an instruction: the transition of its string. -/
theorem decBit_of_instrAt_eq_some {b : Bool} {s : State} {i : Instr} (hlen : s.curLen + 1 ≤ 13)
    (h : instrAt s.decState (shiftBit s.curVal b) (s.curLen + 1) = some i) :
    ∃ r, codeRefOf i = some r ∧ r.legalIn s.decState = true ∧ r.code.len = s.curLen + 1 ∧
      decBit b (trAdvance 1 s) = transition r (withAcc (r.code.value.setWidth 14) r.code.len (trAdvance 1 s)) := by
  obtain ⟨r, hr, hi⟩ := instrAt_eq_some h
  obtain ⟨hmatch, hlegal, -⟩ := stringAt_sound hr
  obtain ⟨hl, hv⟩ := (Code.matchesAcc_iff _ _ _).1 hmatch
  refine ⟨r, hi, hlegal, hl, ?_⟩
  have hacc : withAcc (r.code.value.setWidth 14) r.code.len (trAdvance 1 s) = shiftIn b (trAdvance 1 s) := by
    rw [hl, hv, shiftIn_eq_withAcc]
    rfl
  rw [decBit, afterShift_eq (by simpa using hlen), hacc]
  simp [hr]

/-- What DEC.BIT leaves when it goes on: an empty accumulator, or one bit more and at most 13. -/
theorem decBit_goes_curLen {b : Bool} {s t : State} (h : decBit b s = .goes t) :
    t.curLen = 0 ∨ (t.curLen = s.curLen + 1 ∧ t.curLen ≤ 13) := by
  rcases afterShift_cases (shiftIn b s) with ⟨-, heq⟩ | ⟨hlen, heq | ⟨q, heq⟩ | ⟨n, heq⟩ | heq⟩ <;>
    rw [decBit, heq] at h
  · cases h
  · cases h
    exact .inl rfl
  · exact .inl (emitRun_goes_curLen h)
  · exact .inl (emitRun_goes_curLen h)
  · cases h
    exact .inr ⟨rfl, hlen⟩

/-- One bit more of `decodeFrom`: the instruction is complete, or it is that of the bits that follow. -/
theorem decodeFrom_cons_eq_instr {st : DecState} {v : BitVec 14} {l len : Nat} {b : Bool} {bs : List Bool} {i : Instr}
    (h : decodeFrom st v l (b :: bs) = .instr i len) :
    l + 1 ≤ 13 ∧
      ((instrAt st (shiftBit v b) (l + 1) = some i ∧ len = l + 1) ∨
        (instrAt st (shiftBit v b) (l + 1) = none ∧ decodeFrom st (shiftBit v b) (l + 1) bs = .instr i len)) := by
  rw [decodeFrom] at h
  split at h
  next => cases h
  next hlen =>
    refine ⟨by simpa [Config.maxCodeLen] using hlen, ?_⟩
    split at h
    next j hj =>
      cases h
      exact .inl ⟨hj, rfl⟩
    next hnone => exact .inr ⟨hnone, h⟩

-- ## Given bits: `feedBits`

/-- Bits that are an instruction with their last one, given to DEC.BIT, take the transition of its string. -/
theorem feedBits_of_decodeFrom {bs : List Bool} {s : State} {i : Instr}
    (h : decodeFrom s.decState s.curVal s.curLen bs = .instr i (s.curLen + bs.length)) :
    ∃ r, codeRefOf i = some r ∧
      feedBits bs s = transition r (withAcc (r.code.value.setWidth 14) r.code.len (trAdvance bs.length s)) := by
  induction bs generalizing s with
  | nil => cases h
  | cons b bs ih =>
    obtain ⟨hlen, ⟨hi, hend⟩ | ⟨hnone, hrest⟩⟩ := decodeFrom_cons_eq_instr h
    · obtain ⟨r, hr, -, -, hbit⟩ := decBit_of_instrAt_eq_some hlen hi
      obtain rfl : bs = [] := List.length_eq_zero_iff.1 (by rw [List.length_cons] at hend; omega)
      refine ⟨r, hr, ?_⟩
      rw [feedBits, hbit]
      cases transition r (withAcc (r.code.value.setWidth 14) r.code.len (trAdvance 1 s)) <;> rfl
    · have hlen' : s.curLen + (b :: bs).length = s.curLen + 1 + bs.length := by rw [List.length_cons]; omega
      rw [hlen'] at hrest
      obtain ⟨r, hr, hfeed⟩ := ih (s := shiftIn b (trAdvance 1 s)) hrest
      refine ⟨r, hr, ?_⟩
      rw [withAcc_trAdvance_shiftIn] at hfeed
      rw [feedBits, decBit_of_instrAt_eq_none hlen hnone]
      exact hfeed

-- ## The stream: `readOn`

/-- The loop of `readOn` after one DEC.BIT: it goes on, with `k` turns left, unless the accumulator is empty. -/
def goOn (k : Nat) : DecRun → DecRun
  | .goes t => if t.curLen = 0 then .goes t else readOn k t
  | .ends t => .ends t

theorem goOn_goes_of_curLen_eq_zero {t : State} (h : t.curLen = 0) (k : Nat) : goOn k (.goes t) = .goes t := if_pos h

theorem goOn_goes_of_curLen_ne_zero {t : State} (h : t.curLen ≠ 0) {k : Nat} : goOn k (.goes t) = readOn k t := if_neg h

theorem readOn_succ {s : State} (h : s.trPos < s.trLim) (k : Nat) :
    readOn (k + 1) s = goOn k (decBit (codeBit s s.trPos) (trAdvance 1 s)) := by
  rw [readOn, if_pos h]
  rfl

theorem readOn_of_exhausted {s : State} (h : ¬ s.trPos < s.trLim) (k : Nat) : readOn k s = .goes s := by
  cases k with
  | zero => rfl
  | succ k => rw [readOn, if_neg h]

/-- Where the stream goes on with an instruction of `n` more bits, `readOn` comes to the transition of its string. -/
theorem readOn_of_decodeFrom {k : Nat} {s : State} {i : Instr} {len : Nat}
    (h : decodeFrom s.decState s.curVal s.curLen (streamBits s s.trPos k) = .instr i len) :
    ∃ r n m, codeRefOf i = some r ∧ r.legalIn s.decState = true ∧ r.code.len = s.curLen + n ∧ k = n + m ∧
      s.trPos + n ≤ s.trLim ∧
      readOn k s = goOn m (transition r (withAcc (r.code.value.setWidth 14) r.code.len (trAdvance n s))) := by
  induction k generalizing s with
  | zero => cases h
  | succ k ih =>
    rw [streamBits] at h
    split at h
    next hin =>
      obtain ⟨hlen, ⟨hi, -⟩ | ⟨hnone, hrest⟩⟩ := decodeFrom_cons_eq_instr h
      · obtain ⟨r, hr, hlegal, hrlen, hbit⟩ := decBit_of_instrAt_eq_some hlen hi
        exact ⟨r, 1, k, hr, hlegal, hrlen, by omega, hin, by rw [readOn_succ hin, hbit]⟩
      · rw [← streamBits_shiftIn_trAdvance (codeBit s s.trPos) 1] at hrest
        obtain ⟨r, n, m, hr, hlegal, hrlen, hk, hroom, hread⟩ :=
          ih (s := shiftIn (codeBit s s.trPos) (trAdvance 1 s)) hrest
        simp only [shiftIn_curLen, shiftIn_trPos, shiftIn_trLim, trAdvance_curLen, trAdvance_trPos, trAdvance_trLim]
          at hrlen hroom
        refine ⟨r, n + 1, m, hr, hlegal, by omega, by omega, by omega, ?_⟩
        rw [readOn_succ hin, decBit_of_instrAt_eq_none hlen hnone, ← withAcc_trAdvance_shiftIn, ← hread]
        exact goOn_goes_of_curLen_ne_zero (Nat.succ_ne_zero _)
    next => cases h

/-- Turns beyond the fourteenth bit are never taken: by then the accumulator was emptied or FormatError was raised. -/
theorem readOn_add (j : Nat) {k : Nat} {s : State} (hlen : s.curLen ≤ 13) (hk : 14 ≤ s.curLen + k) :
    readOn (k + j) s = readOn k s := by
  induction k generalizing s with
  | zero => omega
  | succ k ih =>
    by_cases hin : s.trPos < s.trLim
    · rw [Nat.succ_add_eq_add_succ, Nat.add_succ, readOn_succ hin, readOn_succ hin]
      cases hbit : decBit (codeBit s s.trPos) (trAdvance 1 s) with
      | ends t => rfl
      | goes t =>
        rcases decBit_goes_curLen hbit with h0 | ⟨hadd, h13⟩
        · rw [goOn_goes_of_curLen_eq_zero h0, goOn_goes_of_curLen_eq_zero h0]
        · rw [trAdvance_curLen] at hadd
          have hne : t.curLen ≠ 0 := by omega
          rw [goOn_goes_of_curLen_ne_zero hne, goOn_goes_of_curLen_ne_zero hne]
          exact ih h13 (by omega)
    · rw [readOn_of_exhausted hin, readOn_of_exhausted hin]

end Sys2Proof.Machine
end

section
/-! SUPPORT. The instructions of the stream: what each string does as an instruction, against its transition. -/

namespace Sys2Proof.Machine

/-- The meaning of a string as an instruction of DECODE_ROW. -/
def takeString : CodeRef → State → Host.Outcome State Fault Refusal
  | .term c n, s => takeTerm c n s
  | .makeup c q, s => takeMakeup c q s
  | .eol, s => takeEol s
  | .reserved p, s => takeReserved p s

/-- An instruction that stands for a string has the meaning of the string. -/
theorem exec_eq_takeString {i : Instr} {r : CodeRef} (h : codeRefOf i = some r) (s : State) :
    exec i s = takeString r s := by
  cases i <;> cases h <;> rfl

theorem takeCode_of_tried {k : Code} {tried : Bool} {direct : State → DecRun} {s : State} (hempty : atBoundary s = true)
    (htried : tried = true) (hroom : s.trPos + k.len ≤ s.trLim) :
    takeCode k tried direct s = .next (direct (trAdvance k.len s)).state := by
  rw [takeCode, if_neg (by omega), hempty, htried]
  rfl

theorem transition_withAcc {r : CodeRef} (hr : ∀ p, r ≠ .reserved p) (v : BitVec 14) (l : Nat) (s : State) :
    transition r (withAcc v l s) = transition r s := by
  cases r with
  | term c n => exact emitRun_withAcc ..
  | makeup c q => exact emitRun_withAcc ..
  | eol => rfl
  | reserved p => exact absurd rfl (hr p)

/-- After the transition of a code the accumulator is empty, or the operation has ended: the loop takes no more turns. -/
theorem goOn_transition {r : CodeRef} (hr : ∀ p, r ≠ .reserved p) (m : Nat) (s : State) :
    goOn m (transition r s) = transition r s := by
  cases h : transition r s with
  | ends t => rfl
  | goes t =>
    have hlen : t.curLen = 0 := by
      cases r with
      | term c n => exact emitRun_goes_curLen h
      | makeup c q => exact emitRun_goes_curLen h
      | eol => cases h; rfl
      | reserved p => exact absurd rfl (hr p)
    exact goOn_goes_of_curLen_eq_zero hlen m

/-- A code read where it is tried, with room for its bits, takes its transition behind its last bit. -/
theorem takeString_eq_transition {r : CodeRef} (hr : ∀ p, r ≠ .reserved p) {s : State} (hempty : atBoundary s = true)
    (hlegal : r.legalIn s.decState = true) (hroom : s.trPos + r.code.len ≤ s.trLim) :
    takeString r s = .next (transition r (trAdvance r.code.len s)).state := by
  cases r with
  | term c n =>
    have hc : c = s.decState.color := by simpa [CodeRef.legalIn] using hlegal
    exact takeCode_of_tried hempty (by simp [hc]) hroom
  | makeup c q => exact takeCode_of_tried hempty (by simp [legalIn_makeup hlegal]) hroom
  | eol => exact takeCode_of_tried hempty rfl hroom
  | reserved p => exact absurd rfl (hr p)

theorem atBoundary_iff (s : State) : atBoundary s = true ↔ s.curLen = 0 ∧ s.curVal = 0 := by
  simp [atBoundary]

/-- A reserved prefix at a boundary accumulates its bits, and no transition is taken (44_decoder.md R111). -/
theorem feedBits_reserved (p : ReservedPrefix) {s : State} (hempty : atBoundary s = true) :
    feedBits p.code.bits s = .goes (withAcc (p.code.value.setWidth 14) p.code.len (trAdvance p.code.len s)) := by
  obtain ⟨hlen, hval⟩ := (atBoundary_iff s).1 hempty
  obtain ⟨i, hi, hbits⟩ := decodeBits_reserved s.decState p
  have hfrom : decodeFrom s.decState s.curVal s.curLen p.code.bits = .instr i (s.curLen + p.code.bits.length) := by
    rw [hlen, hval, Nat.zero_add]
    exact hbits
  obtain ⟨r, hr, hfeed⟩ := feedBits_of_decodeFrom hfrom
  rw [codeRefOf_codeInstr hi] at hr
  cases hr
  rw [hfeed, Code.length_bits]
  rfl

/-- A reserved prefix read at a boundary goes on, as the loop does, from its accumulated bits. -/
theorem takeString_reserved (p : ReservedPrefix) {s : State} (hempty : atBoundary s = true)
    (hroom : s.trPos + p.code.len ≤ s.trLim) {m : Nat} (hm : p.code.len + m = 14) :
    takeString (.reserved p) s =
      .next (goOn m (.goes (withAcc (p.code.value.setWidth 14) p.code.len (trAdvance p.code.len s)))).state := by
  obtain ⟨hpos, hle⟩ := ReservedPrefix.len_bounds p
  generalize ht : withAcc (p.code.value.setWidth 14) p.code.len (trAdvance p.code.len s) = t
  have htlen : t.curLen = p.code.len := ht ▸ rfl
  have hread : readOn (Config.maxCodeLen + 1) t = readOn m t := by
    have h14 : Config.maxCodeLen + 1 = m + p.code.len := by simp only [Config.maxCodeLen]; omega
    rw [h14]
    exact readOn_add _ (by omega) (by omega)
  have hne : t.curLen ≠ 0 := by omega
  rw [takeString, takeReserved, if_neg (by omega), feedBits_reserved p hempty, ht,
    goOn_goes_of_curLen_ne_zero hne, ← hread]
  exact if_neg hne

/-- An instruction that the next bits of the stream are, read from an empty accumulator: executing it is the loop of
44_decoder.md R117, bit by bit. -/
theorem exec_nextInstr_eq_readOn {s : State} {i : Instr} {len : Nat} (hempty : atBoundary s = true)
    (h : nextInstr s = .instr i len) : exec i s = .next (readOn 14 s).state := by
  obtain ⟨hlen, hval⟩ := (atBoundary_iff s).1 hempty
  have hfrom : decodeFrom s.decState s.curVal s.curLen (streamBits s s.trPos 14) = .instr i len := by
    rw [hlen, hval]
    exact h
  obtain ⟨r, n, m, hr, hlegal, hrlen, hk, hroom, hread⟩ := readOn_of_decodeFrom hfrom
  obtain rfl : r.code.len = n := by omega
  rw [exec_eq_takeString hr, hread]
  by_cases hres : ∃ p, r = .reserved p
  · obtain ⟨p, rfl⟩ := hres
    exact takeString_reserved p hempty hroom hk.symm
  · have hcode : ∀ p, r ≠ .reserved p := fun p hp => hres ⟨p, hp⟩
    rw [goOn_transition hcode, transition_withAcc hcode]
    exact takeString_eq_transition hcode hempty hlegal hroom

end Sys2Proof.Machine
end

section
/-! PROOFS. The statements of 00_scope.md. -/

namespace Sys2Proof.Machine

/-- Settles O32: at an empty accumulator the instruction read from the stream does what the bits do one by one, and in
every other case the step is the loop itself. -/
theorem stringStepEqualsBitSteps : Obligations.StringStepEqualsBitSteps := by
  intro s hbusy hin
  have hstep : step s = decodeTurn s := by rw [step, hbusy]
  rw [hstep, decodeTurn, if_neg hin.ne, if_pos hin]
  split
  next hempty =>
    split
    next i len h => exact exec_nextInstr_eq_readOn hempty h
    next => rfl
    next => rfl
  next => rfl

end Sys2Proof.Machine
end

section
/-! SUPPORT. What one step comes to: a host action, a turn of ENCODE_ROW, a turn of DECODE_ROW, each said once for the
statements about every step. -/

namespace Sys2Proof.Machine

-- ## The encoder: the stream bits a turn writes (43_encoder.md R98)

theorem twPutBits_append (as bs : List Bool) (s : State) :
    twPutBits (as ++ bs) s = twPutBits bs (twPutBits as s) := by
  induction as generalizing s with
  | nil => rfl
  | cons a as ih => exact ih _

/-- Stream bits that were written had room, and are all that happened. -/
theorem twWriteBits_eq_next {bs : List Bool} {s t : State} (h : twWriteBits bs s = .next t) :
    twRoom bs.length s = true ∧ t = twPutBits bs s := by
  rcases twWriteBits_cases bs s with ⟨hroom, heq⟩ | ⟨-, heq⟩ <;> rw [heq] at h <;> cases h
  exact ⟨hroom, rfl⟩

/-- Room for bits behind other bits is room for both. -/
theorem twRoom_twPutBits (as bs : List Bool) (s : State) :
    twRoom bs.length (twPutBits as s) = twRoom (as ++ bs).length s := by
  rw [twPutBits_eq as s, List.length_append]
  simp only [twRoom, Nat.add_assoc]

/-- SCAN.PIXEL counts the pixel, behind the codes of the run it has ended, if it has ended one. -/
theorem scanPixel_eq_next {b : Bool} {s t : State} (h : scanPixel b s = .next t) :
    t = countPixel s ∨ ∃ bs, twRoom bs.length s = true ∧
      t = countPixel { twPutBits bs s with curColor := colorOf b, runCnt := 0 } := by
  unfold scanPixel at h
  split at h
  next => cases h; exact .inl rfl
  next =>
    split at h
    next u hflush =>
      cases h
      obtain ⟨hroom, rfl⟩ := twWriteBits_eq_next hflush
      exact .inr ⟨_, hroom, rfl⟩
    next => cases h
    next => cases h

/-- SCAN.END writes the codes of the last run, or nothing for the empty row. -/
theorem scanEnd_eq_next {w : Nat} {s t : State} (h : scanEnd w s = .next t) :
    t = s ∨ ∃ bs, twRoom bs.length s = true ∧ t = twPutBits bs s := by
  unfold scanEnd at h
  split at h
  next => cases h; exact .inl rfl
  next => exact .inr ⟨_, twWriteBits_eq_next h⟩

/-- The end of ENCODE_ROW writes stream bits that have room and ends normally. -/
theorem finishEncode_eq_next {s t : State} (h : finishEncode s = .next t) :
    ∃ bs, twRoom bs.length s = true ∧
      t = endNormally { twPutBits bs s with outLen := (twPutBits bs s).twPos / 8 } := by
  unfold finishEncode at h
  split at h
  next u hscan =>
    split at h
    next v hflush =>
      cases h
      obtain ⟨hroom, rfl⟩ := twWriteBits_eq_next hflush
      rcases scanEnd_eq_next hscan with rfl | ⟨as, -, rfl⟩
      · exact ⟨_, hroom, rfl⟩
      · rw [twRoom_twPutBits] at hroom
        exact ⟨_, hroom, by rw [twPutBits_append]⟩
    next => cases h
    next => cases h
  next => cases h
  next => cases h

-- ## The decoder: one DEC.BIT and the end (44_decoder.md R104, R115)

theorem raiseException_shiftIn (x : Exc) (op : Operation) (p : Nat) (b : Bool) (s : State) :
    raiseException x op p (shiftIn b s) = raiseException x op p s := by
  cases x <;> cases op <;> rfl

/-- What one DEC.BIT can come to: the bit is accumulated, EOL or a run of a code empties the accumulator, or an exception
is raised. -/
inductive BitEffect (b : Bool) (s : State) : DecRun → Prop
  | accumulates (hlen : s.curLen + 1 ≤ 13) : BitEffect b s (.goes (shiftIn b s))
  | resynchronises : BitEffect b s (emitEol s)
  | emits (c : Color) (n : Nat) (st : DecState) (hfits : nwFits n s = true) :
      BitEffect b s (.goes (toDecState st (nwPut c n s)))
  | raises (x : Exc) : BitEffect b s (.ends (raiseException x .decodeRow s.trPos s))

/-- A run emitted behind the shift of a bit: the bit is gone with the accumulator. -/
theorem emitRun_shiftIn_effect (b : Bool) (c : Color) (n : Nat) (st : DecState) (s : State) :
    BitEffect b s (emitRun c n st (shiftIn b s)) := by
  rw [shiftIn_eq_withAcc, emitRun_withAcc]
  rcases emitRun_cases c n st s with ⟨hfits, heq⟩ | ⟨-, heq⟩ <;> rw [heq]
  · exact .emits c n st hfits
  · exact .raises .capacityFault

theorem decBit_effect (b : Bool) (s : State) : BitEffect b s (decBit b s) := by
  rcases afterShift_cases (shiftIn b s) with ⟨-, heq⟩ | ⟨hlen, heq | ⟨q, heq⟩ | ⟨n, heq⟩ | heq⟩ <;> rw [decBit, heq]
  · rw [raiseException_shiftIn]
    exact .raises .formatError
  · exact .resynchronises
  · exact emitRun_shiftIn_effect ..
  · exact emitRun_shiftIn_effect ..
  · exact .accumulates hlen

/-- A condition on a part of DECODE_ROW: `G` of the state it goes on from, `E` of the state an exception has left. -/
def DecRun.Meets (G E : State → Prop) : DecRun → Prop
  | .goes t => G t
  | .ends t => E t

/-- A condition of both kinds of state is one of the state that is left. -/
theorem DecRun.Meets.state {P : State → Prop} {r : DecRun} (h : r.Meets P P) : P r.state := by
  cases r <;> exact h

/-- What every DEC.BIT keeps, the loop of 44_decoder.md R117 keeps. -/
theorem readOn_meets {G E : State → Prop}
    (hbit : ∀ u, u.trPos < u.trLim → G u → (decBit (codeBit u u.trPos) (trAdvance 1 u)).Meets G E)
    (k : Nat) {s : State} (hs : G s) : (readOn k s).Meets G E := by
  induction k generalizing s with
  | zero => exact hs
  | succ k ih =>
    by_cases hin : s.trPos < s.trLim
    · have h := hbit s hin hs
      rw [readOn_succ hin]
      cases hrun : decBit (codeBit s s.trPos) (trAdvance 1 s) with
      | ends t => rw [hrun] at h; exact h
      | goes t =>
        rw [hrun] at h
        by_cases hlen : t.curLen = 0
        · rw [goOn_goes_of_curLen_eq_zero hlen]; exact h
        · rw [goOn_goes_of_curLen_ne_zero hlen]; exact ih h
    · rw [readOn_of_exhausted hin]; exact hs

/-- DEC.END before it compares the width: the last byte padded and OUT_LEN set. -/
def closeRow (s : State) : State := { nwClose s with outLen := s.nwPos }

theorem closeRow_eq (s : State) : closeRow s = { s with outLen := s.nwPos, pix := (nwClose s).pix } := by
  rw [closeRow, nwClose, padPix_eq]

/-- The end of DECODE_ROW: WidthMismatch in strict mode at another width than EXP_WIDTH, else the normal end. -/
theorem finishDecode_eq (s : State) :
    finishDecode s =
      if s.strict && s.nwPos != s.expWidth then raiseException .widthMismatch .decodeRow s.trPos (closeRow s)
      else endNormally (closeRow s) := by
  have hend : decEnd s =
      if s.strict && s.nwPos != s.expWidth then decRaise .widthMismatch s.trPos (closeRow s)
      else .goes (closeRow s) := by
    show (if (closeRow s).strict && (closeRow s).outLen != (closeRow s).expWidth
      then decRaise .widthMismatch (closeRow s).trPos (closeRow s) else .goes (closeRow s)) = _
    rw [closeRow_eq]
    rfl
  rw [finishDecode, hend]
  cases s.strict && s.nwPos != s.expWidth <;> rfl

-- ## The host's actions (45_host_commands.md)

/-- What a host action can come to. -/
inductive HostEffect (s : State) : HostAction → State → Prop
  | returns (a : HostAction) (r : Ret) : HostEffect s a (giveBack r s)
  | sets (a : HostAction) (ctrl : BitVec 1) (inLen expWidth : Nat) :
      HostEffect s a { s with ctrl := ctrl, inLen := inLen, expWidth := expWidth }
  | writes (mem : MemSel) (addr : Nat) (bytes : List Byte) (hexist : bytesExist mem addr bytes.length s = true) :
      HostEffect s (.wrbuf mem addr bytes) (writeBytes mem addr bytes s)
  | encodes (a : HostAction) : HostEffect s a (startEncode s)
  | decodes (a : HostAction) : HostEffect s a (startDecode s)
  | resets : HostEffect s .reset (resetEvent s)

theorem whenIdle_of_idle {s : State} (h : s.busy = none) (o : Host.Outcome State Fault Refusal) : whenIdle s o = o :=
  if_pos h

/-- A write to a register but CMD changes at most the three registers the host may write (45_host_commands.md R122). -/
theorem writeReg_succ_eq_some {reg v : Nat} {s t : State} (h : writeReg (reg + 1) v s = some t) :
    ∃ ctrl inLen expWidth, t = { s with ctrl := ctrl, inLen := inLen, expWidth := expWidth } := by
  unfold writeReg at h
  split at h <;> cases h
  case h_1 => contradiction
  all_goals exact ⟨_, _, _, rfl⟩

theorem exec_hostAction_effect {s t : State} {a : HostAction} (hidle : s.busy = none)
    (h : exec a.instr s = .next t) : HostEffect s a t := by
  cases a with
  | rd reg =>
    change whenIdle s _ = _ at h
    rw [whenIdle_of_idle hidle] at h
    split at h <;> cases h
    exact .returns ..
  | wr reg v =>
    cases reg with
    | zero =>
      rw [HostAction.instr_wr_cmd, decodeCmd] at h
      split at h
      · change whenIdle s _ = _ at h
        rw [whenIdle_of_idle hidle] at h
        cases h
        exact .encodes _
      · change whenIdle s _ = _ at h
        rw [whenIdle_of_idle hidle] at h
        cases h
        exact .decodes _
    | succ reg =>
      change whenIdle s _ = _ at h
      rw [whenIdle_of_idle hidle] at h
      split at h <;> cases h
      next hw =>
        obtain ⟨_, _, _, rfl⟩ := writeReg_succ_eq_some hw
        exact .sets ..
  | wrbuf mem addr bytes =>
    change whenIdle s _ = _ at h
    rw [whenIdle_of_idle hidle] at h
    split at h <;> cases h
    next hexist => exact .writes mem addr bytes hexist
  | rdbuf mem addr n =>
    change whenIdle s _ = _ at h
    rw [whenIdle_of_idle hidle] at h
    split at h <;> cases h
    exact .returns ..
  | reset =>
    cases h
    exact .resets

-- ## The starts of the two operations (45_host_commands.md R124, R125)

theorem startEncode_of_fits {s : State} (h : Config.within s.inLen s.cap.maxRowBits = true) :
    startEncode s = { s with
      status := withoutErr s.status, nrPos := 0, nrLim := s.inLen, twPos := 0, curColor := .white, runCnt := 0
      busy := some .encodeRow } := by
  simp only [startEncode, if_pos h, scanInit, twOpen, nrOpen, clearErr]

theorem startEncode_of_not_fits {s : State} (h : ¬ Config.within s.inLen s.cap.maxRowBits = true) :
    startEncode s = raiseException .capacityFault .encodeRow 0 (clearErr s) :=
  if_neg h

theorem startDecode_of_fits {s : State} (h : Config.within s.inLen s.cap.maxCodeBytes = true) :
    startDecode s = { s with
      status := withoutErr s.status, trPos := 0, trLim := 8 * s.inLen, nwPos := 0, decState := .expectingWhiteRun
      curVal := 0, curLen := 0, busy := some .decodeRow } := by
  simp only [startDecode, if_pos h, decInit, toDecState, clearAcc, nwOpen, trOpen, clearErr]

theorem startDecode_of_not_fits {s : State} (h : ¬ Config.within s.inLen s.cap.maxCodeBytes = true) :
    startDecode s = raiseException .capacityFault .decodeRow 0 (clearErr s) :=
  if_neg h

-- ## The step (assumption log 1)

/-- With no action to come the idle block waits (assumption log 19). -/
theorem step_of_waiting {s : State} (hidle : s.busy = none) (hnone : s.pending = []) : step s = .next s := by
  rw [step, hidle]
  show hostTurn s = _
  rw [hostTurn, hnone]

/-- Between operations a step is the next action of the host, or none. -/
theorem step_of_idle {s t : State} (hidle : s.busy = none) (h : step s = .next t) :
    t = s ∨ ∃ a rest, s.pending = a :: rest ∧ HostEffect { s with pending := rest } a t := by
  rw [step, hidle] at h
  change hostTurn s = _ at h
  unfold hostTurn at h
  split at h
  next => cases h; exact .inl rfl
  next a rest hnext => exact .inr ⟨a, rest, hnext, exec_hostAction_effect hidle h⟩

/-- What a turn of ENCODE_ROW can come to: a pixel counted, a run ended before the pixel is counted, or the end. -/
inductive EncodeEffect (s : State) : State → Prop
  | counts (hin : s.nrPos < s.nrLim) : EncodeEffect s (countPixel (nrAdvance 1 s))
  | flushes (c : Color) (bs : List Bool) (hin : s.nrPos < s.nrLim) (hroom : twRoom bs.length s = true) :
      EncodeEffect s (countPixel { twPutBits bs (nrAdvance 1 s) with curColor := c, runCnt := 0 })
  | ends (bs : List Bool) (hroom : twRoom bs.length s = true) :
      EncodeEffect s (endNormally { twPutBits bs s with outLen := (twPutBits bs s).twPos / 8 })

theorem step_of_encoding {s t : State} (hbusy : s.busy = some .encodeRow) (h : step s = .next t) :
    EncodeEffect s t := by
  rw [step, hbusy] at h
  change encodeTurn s = _ at h
  unfold encodeTurn at h
  split at h
  next =>
    obtain ⟨bs, hroom, rfl⟩ := finishEncode_eq_next h
    exact .ends bs hroom
  next =>
    split at h
    next hin =>
      rcases scanPixel_eq_next h with rfl | ⟨bs, hroom, rfl⟩
      · exact .counts hin
      · exact .flushes _ bs hin hroom
    next => cases h

/-- At the end of its input DECODE_ROW ends (44_decoder.md R117). -/
theorem step_of_input_ended {s : State} (hbusy : s.busy = some .decodeRow) (hend : s.trPos = s.trLim) :
    step s = .next (finishDecode s) := by
  rw [step, hbusy]
  exact if_pos hend

/-- A turn of DECODE_ROW, in the form of its loop (`stringStepEqualsBitSteps`), or its end. -/
theorem step_of_decoding {s t : State} (hbusy : s.busy = some .decodeRow) (h : step s = .next t) :
    (s.trPos < s.trLim ∧ t = (readOn 14 s).state) ∨ (s.trPos = s.trLim ∧ t = finishDecode s) := by
  rcases Nat.lt_trichotomy s.trPos s.trLim with hin | hend | hpast
  · rw [stringStepEqualsBitSteps s hbusy hin] at h
    cases h
    exact .inl ⟨hin, rfl⟩
  · rw [step_of_input_ended hbusy hend] at h
    cases h
    exact .inr ⟨hend, rfl⟩
  · rw [step, hbusy] at h
    change decodeTurn s = _ at h
    rw [decodeTurn, if_neg hpast.ne', if_neg hpast.not_gt] at h
    cases h

end Sys2Proof.Machine
end

section
/-! SUPPORT. The invariant `Inv`, kept by each operation on the state. -/

namespace Sys2Proof.Machine

-- ## Bounds that may be absent

theorem within_of_le {m n : Nat} {bound : Option Nat} (hmn : m ≤ n) (h : Config.within n bound = true) :
    Config.within m bound = true := by
  cases bound with
  | none => rfl
  | some b => exact decide_eq_true (hmn.trans (of_decide_eq_true h))

theorem within_zero (bound : Option Nat) : Config.within 0 bound = true := by
  cases bound with
  | none => rfl
  | some b => exact decide_eq_true (Nat.zero_le b)

/-- A size within a bound, both in another unit of size. -/
theorem within_map {f : Nat → Nat} (hf : Monotone f) {n : Nat} {bound : Option Nat}
    (h : Config.within n bound = true) : Config.within (f n) (bound.map f) = true := by
  cases bound with
  | none => rfl
  | some b => exact decide_eq_true (hf (of_decide_eq_true h))

theorem ceil8_mono : Monotone ceil8 := fun _ _ h => Nat.div_le_div_right (Nat.add_le_add_right h 7)

theorem eight_mul_mono : Monotone (8 * ·) := fun _ _ h => Nat.mul_le_mul_left 8 h

/-- The byte of a stream bit of CODE exists (20_memory.md R36, R45). -/
theorem within_codeByte {j : Nat} {bound : Option Nat} (h : Config.within (j + 1) (bound.map (8 * ·)) = true) :
    Config.within (j / 8 + 1) bound = true := by
  cases bound with
  | none => rfl
  | some b =>
    have hj : j + 1 ≤ 8 * b := of_decide_eq_true h
    exact decide_eq_true (by omega)

/-- The bits that close a byte lie in a byte already begun. -/
theorem ceil8_add_padCount (p : Nat) : ceil8 (p + padCount p) = ceil8 p := by
  unfold ceil8 padCount
  omega

-- ## The memories

theorem all_putCell {p : Host.Cell → Bool} {l : List Host.Cell} {a : Nat} {v : Byte} (hl : l.all p = true)
    (hv : p (a, v) = true) : (putCell l a v).all p = true := by
  rw [List.all_eq_true] at hl ⊢
  intro c hc
  rcases mem_putCell hc with rfl | hold
  · exact hv
  · exact hl c hold

variable {s : State}

/-- A write to a byte that exists. -/
theorem Inv.setMemByte (h : Inv s) {mem : MemSel} {addr : Nat}
    (hexists : Config.within (addr + 1) (memSize mem s) = true) (v : Byte) : Inv (setMemByte mem addr v s) := by
  cases mem with
  | pix =>
    exact { h with pixCanonical := Memory.wf_write _ _ h.pixCanonical, pixInside := all_putCell h.pixInside hexists }
  | code =>
    exact { h with codeCanonical := Memory.wf_write _ _ h.codeCanonical, codeInside := all_putCell h.codeInside hexists }

theorem memSize_setMemByte (m mem : MemSel) (addr : Nat) (v : Byte) (s : State) :
    memSize m (setMemByte mem addr v s) = memSize m s := by
  cases mem <;> rfl

theorem Inv.writeBytes (h : Inv s) {mem : MemSel} {addr : Nat} {bytes : List Byte}
    (hexist : bytesExist mem addr bytes.length s = true) : Inv (writeBytes mem addr bytes s) := by
  induction bytes generalizing addr s with
  | nil => exact h
  | cons v vs ih =>
    have hall : Config.within (addr + 1 + vs.length) (memSize mem s) = true := by
      simpa [bytesExist, Nat.add_assoc, Nat.add_comm 1] using hexist
    refine ih (h.setMemByte (within_of_le (Nat.le_add_right _ _) hall) v) ?_
    rw [bytesExist, memSize_setMemByte, hall, Bool.or_true]

-- ## The readers and writers (41_bit_accessors.md)

theorem Inv.nrAdvance (h : Inv s) (hin : s.nrPos < s.nrLim) : Inv (nrAdvance 1 s) :=
  { h with nrPosWithinLimit := hin, runCntAtMostRead := fun hbusy => Nat.le_succ_of_le (h.runCntAtMostRead hbusy) }

theorem Inv.trAdvance (h : Inv s) (hin : s.trPos < s.trLim) : Inv (trAdvance 1 s) :=
  { h with trPosWithinLimit := hin }

theorem Inv.twPutBits (h : Inv s) {bs : List Bool} (hroom : twRoom bs.length s = true) : Inv (twPutBits bs s) := by
  induction bs generalizing s with
  | nil => exact h
  | cons b bs ih =>
    have hall : Config.within (s.twPos + 1 + bs.length) (s.cap.maxCodeBytes.map (8 * ·)) = true := by
      rw [Nat.add_assoc, Nat.add_comm 1]
      exact hroom
    have hbit := within_of_le (Nat.le_add_right _ _) hall
    exact ih { h.setMemByte (mem := .code) (within_codeByte hbit) _ with twPosFits := hbit } hall

theorem Inv.nwPut (h : Inv s) {c : Color} {n : Nat} (hfits : nwFits n s = true) : Inv (nwPut c n s) := by
  induction n generalizing s with
  | zero => exact h
  | succ n ih =>
    have hall : Config.within (s.nwPos + 1 + n) s.cap.maxRowBits = true := by
      rw [Nat.add_assoc, Nat.add_comm 1]
      exact hfits
    have hpix := within_of_le (Nat.le_add_right _ _) hall
    have hbyte : Config.within (s.nwPos / 8 + 1) (memSize .pix s) = true :=
      within_of_le (by unfold ceil8; omega) (within_map ceil8_mono hpix)
    exact ih { h.setMemByte (mem := .pix) hbyte _ with nwPosFits := hpix } hall

theorem Inv.padPix (h : Inv s) {k p : Nat} (hbytes : Config.within (ceil8 (p + k)) (memSize .pix s) = true) :
    Inv (padPix k p s) := by
  induction k generalizing p s with
  | zero => exact h
  | succ k ih =>
    have hbyte : Config.within (p / 8 + 1) (memSize .pix s) = true :=
      within_of_le (by unfold ceil8; omega) hbytes
    refine ih (h.setMemByte (mem := .pix) hbyte _) ?_
    rw [Nat.add_assoc, Nat.add_comm 1]
    exact hbytes

theorem Inv.closeRow (h : Inv s) : Inv (closeRow s) := by
  have hbytes : Config.within (ceil8 (s.nwPos + padCount s.nwPos)) (memSize .pix s) = true := by
    rw [ceil8_add_padCount]
    exact within_map ceil8_mono h.nwPosFits
  exact { h.padPix hbytes with }

-- ## The ends of an operation (60_exceptions.md R132, 45_host_commands.md R123)

theorem Inv.endNormally (h : Inv s) : Inv (endNormally s) :=
  { h with runCntAtMostRead := by simp }

theorem Inv.forgetPix (h : Inv s) : Inv { s with pix := s.pix.forget } :=
  { h with pixCanonical := rfl, pixInside := rfl }

theorem Inv.reportException (h : Inv s) (x : Exc) (p : Nat) : Inv (reportException x p s) :=
  { h with curLenAtMost13 := Nat.zero_le _, curValFits := by simp, runCntAtMostRead := by simp }

theorem Inv.raiseException (h : Inv s) (x : Exc) (op : Operation) (p : Nat) : Inv (raiseException x op p s) := by
  have hreport := h.reportException x p
  have hforget := h.forgetPix.reportException x p
  cases x with
  | widthMismatch => rw [raiseException_widthMismatch]; exact hreport
  | formatError => cases op with
    | encodeRow => exact { hreport with }
    | decodeRow => exact { hforget with }
  | capacityFault => cases op with
    | encodeRow => exact { hreport with }
    | decodeRow => exact { hforget with }

-- ## The decoder (44_decoder.md R104)

theorem Inv.toDecState (h : Inv s) (st : DecState) : Inv (toDecState st s) :=
  { h with curLenAtMost13 := Nat.zero_le _, curValFits := by simp }

/-- A bit more in the accumulator doubles the bound of its value. -/
theorem toNat_shiftBit_lt {v : BitVec 14} {l : Nat} (h : v.toNat < 2 ^ l) (b : Bool) :
    (shiftBit v b).toNat < 2 ^ (l + 1) := by
  rw [shiftBit, BitVec.toNat_or]
  refine Nat.or_lt_two_pow ?_ ?_
  · have hmod := Nat.mod_le (v.toNat <<< 1) (2 ^ 14)
    rw [BitVec.toNat_shiftLeft]
    rw [Nat.shiftLeft_eq] at hmod ⊢
    omega
  · cases b <;> simp

theorem Inv.shiftIn (h : Inv s) (b : Bool) (hlen : s.curLen + 1 ≤ 13) : Inv (shiftIn b s) :=
  { h with curLenAtMost13 := hlen, curValFits := toNat_shiftBit_lt h.curValFits b }

theorem BitEffect.meets_inv {b : Bool} {r : DecRun} (heffect : BitEffect b s r) (h : Inv s) : r.Meets Inv Inv := by
  cases heffect with
  | accumulates hlen => exact h.shiftIn b hlen
  | resynchronises => exact h.toDecState _
  | emits c n st hfits => exact (h.nwPut hfits).toDecState st
  | raises x => exact h.raiseException x .decodeRow _

theorem Inv.readOn (h : Inv s) (k : Nat) : Inv (readOn k s).state :=
  (readOn_meets (fun _ hin hu => (decBit_effect _ _).meets_inv (hu.trAdvance hin)) k h).state

theorem Inv.finishDecode (h : Inv s) : Inv (finishDecode s) := by
  rw [finishDecode_eq]
  split
  · exact h.closeRow.raiseException _ _ _
  · exact h.closeRow.endNormally

-- ## The host's actions (45_host_commands.md)

theorem Inv.startEncode (h : Inv s) : Inv (startEncode s) := by
  by_cases hfits : Config.within s.inLen s.cap.maxRowBits = true
  · rw [startEncode_of_fits hfits]
    exact { h with
      nrPosWithinLimit := Nat.zero_le _, nrLimFits := hfits, twPosFits := within_zero _,
      runCntAtMostRead := fun _ => Nat.le_refl 0 }
  · rw [startEncode_of_not_fits hfits]
    exact Inv.raiseException (s := clearErr s) { h with } _ _ _

theorem Inv.startDecode (h : Inv s) : Inv (startDecode s) := by
  by_cases hfits : Config.within s.inLen s.cap.maxCodeBytes = true
  · rw [startDecode_of_fits hfits]
    exact { h with
      trPosWithinLimit := Nat.zero_le _, trLimFits := within_map eight_mul_mono hfits, nwPosFits := within_zero _,
      curLenAtMost13 := Nat.zero_le _, curValFits := by simp, runCntAtMostRead := by simp }
  · rw [startDecode_of_not_fits hfits]
    exact Inv.raiseException (s := clearErr s) { h with } _ _ _

theorem inv_resetEvent (s : State) : Inv (resetEvent s) where
  pixCanonical := rfl
  codeCanonical := rfl
  pixInside := rfl
  codeInside := rfl
  nrPosWithinLimit := Nat.le_refl 0
  nrLimFits := within_zero _
  twPosFits := within_zero _
  trPosWithinLimit := Nat.le_refl 0
  trLimFits := within_zero _
  nwPosFits := within_zero _
  curLenAtMost13 := Nat.zero_le 13
  curValFits := Nat.one_pos
  runCntAtMostRead := fun _ => Nat.le_refl 0

theorem HostEffect.inv {a : HostAction} {t : State} (heffect : HostEffect s a t) (h : Inv s) : Inv t := by
  cases heffect with
  | returns r => exact { h with }
  | sets ctrl inLen expWidth => exact { h with }
  | writes mem addr bytes hexist => exact h.writeBytes hexist
  | encodes => exact h.startEncode
  | decodes => exact h.startDecode
  | resets => exact inv_resetEvent s

-- ## The step

theorem Inv.countPixel (h : Inv s) (hcnt : s.runCnt < s.nrPos) : Inv (countPixel s) :=
  { h with runCntAtMostRead := fun _ => hcnt }

theorem EncodeEffect.inv {t : State} (heffect : EncodeEffect s t) (hbusy : s.busy = some .encodeRow) (h : Inv s) :
    Inv t := by
  cases heffect with
  | counts hin => exact (h.nrAdvance hin).countPixel (Nat.lt_succ_of_le (h.runCntAtMostRead hbusy))
  | flushes c bs hin hroom =>
    have hbits : Inv (Machine.twPutBits bs (Machine.nrAdvance 1 s)) := (h.nrAdvance hin).twPutBits hroom
    refine Inv.countPixel { hbits with runCntAtMostRead := fun _ => Nat.zero_le _ } ?_
    rw [twPutBits_eq]
    exact Nat.succ_pos _
  | ends bs hroom => exact Inv.endNormally { h.twPutBits hroom with }

theorem Inv.step {t : State} (h : Inv s) (hstep : step s = .next t) : Inv t := by
  cases hbusy : s.busy with
  | none =>
    rcases step_of_idle hbusy hstep with rfl | ⟨a, rest, -, hact⟩
    · exact h
    · exact hact.inv { h with }
  | some op =>
    cases op with
    | encodeRow => exact (step_of_encoding hbusy hstep).inv hbusy h
    | decodeRow =>
      rcases step_of_decoding hbusy hstep with ⟨-, rfl⟩ | ⟨-, rfl⟩
      · exact h.readOn 14
      · exact h.finishDecode

end Sys2Proof.Machine
end

section
/-! SUPPORT. What a step of an operation leaves as it is, and what every step does to STATUS and ERR_CODE. -/

namespace Sys2Proof.Machine

/-- The memory an operation reads its input from (20_memory.md R46). -/
def inputMemory : Operation → State → Memory
  | .encodeRow, s => s.pix
  | .decodeRow, s => s.code

/-- What an operation leaves as it is until it ends: the registers of the host, the parameters, its input, and the result
registers but OUT_LEN. -/
structure Working (op : Operation) (s t : State) : Prop where
  ctrl : t.ctrl = s.ctrl
  inLen : t.inLen = s.inLen
  expWidth : t.expWidth = s.expWidth
  cap : t.cap = s.cap
  input : inputMemory op t = inputMemory op s
  status : t.status = s.status
  errCode : t.errCode = s.errCode
  busy : t.busy = s.busy

theorem Working.refl (op : Operation) (s : State) : Working op s s := ⟨rfl, rfl, rfl, rfl, rfl, rfl, rfl, rfl⟩

theorem Working.trans {op : Operation} {s t u : State} (h : Working op s t) (h' : Working op t u) : Working op s u where
  ctrl := h'.ctrl.trans h.ctrl
  inLen := h'.inLen.trans h.inLen
  expWidth := h'.expWidth.trans h.expWidth
  cap := h'.cap.trans h.cap
  input := h'.input.trans h.input
  status := h'.status.trans h.status
  errCode := h'.errCode.trans h.errCode
  busy := h'.busy.trans h.busy

/-- What a step of an operation can come to: it goes on, or it ends normally or with an exception. -/
inductive OperationStep (op : Operation) (s : State) : State → Prop
  | goes {t : State} (hwork : Working op s t) : OperationStep op s t
  | ends {u : State} (hwork : Working op s u) : OperationStep op s (endNormally u)
  | raises {u : State} (hwork : Working op s u) (x : Exc) (p : Nat) : OperationStep op s (raiseException x op p u)

-- ## ENCODE_ROW

theorem working_twPutBits (bs : List Bool) (s : State) : Working .encodeRow s (twPutBits bs s) := by
  rw [twPutBits_eq]
  exact ⟨rfl, rfl, rfl, rfl, rfl, rfl, rfl, rfl⟩

-- ## DECODE_ROW

theorem working_nwPut (c : Color) (n : Nat) (s : State) : Working .decodeRow s (nwPut c n s) := by
  rw [nwPut_eq]
  exact ⟨rfl, rfl, rfl, rfl, rfl, rfl, rfl, rfl⟩

theorem working_closeRow (s : State) : Working .decodeRow s (closeRow s) := by
  rw [closeRow_eq]
  exact ⟨rfl, rfl, rfl, rfl, rfl, rfl, rfl, rfl⟩

/-- One DEC.BIT goes on, or an exception ends the operation. -/
theorem BitEffect.meets_working {b : Bool} {s u : State} {r : DecRun} (heffect : BitEffect b u r)
    (h : Working .decodeRow s u) : r.Meets (Working .decodeRow s) (OperationStep .decodeRow s) := by
  cases heffect with
  | accumulates => exact { h with }
  | resynchronises => exact { h with }
  | emits c n st => exact { h.trans (working_nwPut c n u) with }
  | raises x => exact .raises h x _

theorem readOn_operationStep (k : Nat) (s : State) : OperationStep .decodeRow s (readOn k s).state := by
  have hmeets : (readOn k s).Meets (Working .decodeRow s) (OperationStep .decodeRow s) :=
    readOn_meets (fun _ _ hu => (decBit_effect _ _).meets_working { hu with }) k (Working.refl _ s)
  cases hrun : readOn k s with
  | goes t => rw [hrun] at hmeets; exact .goes hmeets
  | ends t => rw [hrun] at hmeets; exact hmeets

theorem finishDecode_operationStep (s : State) : OperationStep .decodeRow s (finishDecode s) := by
  rw [finishDecode_eq]
  split
  · exact .raises (working_closeRow s) _ _
  · exact .ends (working_closeRow s)

-- ## A step of either

theorem step_operationStep {op : Operation} {s t : State} (hbusy : s.busy = some op) (h : step s = .next t) :
    OperationStep op s t := by
  cases op with
  | encodeRow =>
    cases step_of_encoding hbusy h with
    | counts => exact .goes { Working.refl .encodeRow s with }
    | flushes c bs => exact .goes { working_twPutBits bs (nrAdvance 1 s) with }
    | ends bs => exact .ends { working_twPutBits bs s with }
  | decodeRow =>
    rcases step_of_decoding hbusy h with ⟨-, rfl⟩ | ⟨-, rfl⟩
    · exact readOn_operationStep 14 s
    · exact finishDecode_operationStep s

/-- An exception leaves the registers of the host, the parameters and the input as they are (60_exceptions.md R132). -/
theorem raiseException_inputs (x : Exc) (op : Operation) (p : Nat) (s : State) :
    (raiseException x op p s).ctrl = s.ctrl ∧ (raiseException x op p s).inLen = s.inLen ∧
      (raiseException x op p s).expWidth = s.expWidth ∧ (raiseException x op p s).cap = s.cap ∧
      inputMemory op (raiseException x op p s) = inputMemory op s := by
  cases x <;> cases op <;> exact ⟨rfl, rfl, rfl, rfl, rfl⟩

/-- However a step of an operation comes out, it leaves the operation's inputs as they are. -/
theorem OperationStep.inputs {op : Operation} {s t : State} (h : OperationStep op s t) :
    t.ctrl = s.ctrl ∧ t.inLen = s.inLen ∧ t.expWidth = s.expWidth ∧ t.cap = s.cap ∧
      inputMemory op t = inputMemory op s := by
  cases h with
  | goes hwork => exact ⟨hwork.ctrl, hwork.inLen, hwork.expWidth, hwork.cap, hwork.input⟩
  | ends hwork =>
    refine ⟨hwork.ctrl, hwork.inLen, hwork.expWidth, hwork.cap, Eq.trans ?_ hwork.input⟩
    cases op <;> rfl
  | raises hwork x p =>
    obtain ⟨hctrl, hin, hexp, hcap, hmem⟩ := raiseException_inputs x op p _
    exact ⟨hctrl.trans hwork.ctrl, hin.trans hwork.inLen, hexp.trans hwork.expWidth, hcap.trans hwork.cap,
      hmem.trans hwork.input⟩

-- ## STATUS and ERR_CODE (10_state.md R24, R29)

theorem withDone_withoutErr (x : BitVec 2) : withDone (withoutErr x) = 1 := by revert x; decide

theorem withErr_withDone (x : BitVec 2) : withErr (withDone x) = 3 := by revert x; decide

theorem Exc.code_ne_zero (x : Exc) : x.code ≠ 0 := by cases x <;> decide

@[simp] theorem withoutErr_getLsbD_zero (x : BitVec 2) : (withoutErr x).getLsbD 0 = x.getLsbD 0 := by revert x; decide

@[simp] theorem withoutErr_getLsbD_one (x : BitVec 2) : (withoutErr x).getLsbD 1 = false := by revert x; decide

/-- What a step can do to STATUS and ERR_CODE. -/
inductive StatusEffect (s t : State) : Prop
  | keeps (hstatus : t.status = s.status) (hcode : t.errCode = s.errCode) (hbusy : t.busy = s.busy)
  | starts (hstatus : t.status = withoutErr s.status) (hbusy : t.busy ≠ none)
  | ends (hstatus : t.status = 1) (hcode : t.errCode = 0) (hbusy : t.busy = none)
  | raises (hstatus : t.status = 3) (hcode : t.errCode ≠ 0) (hbusy : t.busy = none)
  | resets (hidle : s.busy = none) (hnext : s.pending.head? = some .reset) (hstatus : t.status = 0)
      (hcode : t.errCode = 0) (hbusy : t.busy = none)

/-- An exception shows an error, whatever STATUS was. -/
theorem statusEffect_raiseException (s : State) (x : Exc) (op : Operation) (p : Nat) (u : State) :
    StatusEffect s (raiseException x op p u) := by
  rw [raiseException_eq]
  exact .raises (withErr_withDone _) x.code_ne_zero rfl

theorem OperationStep.statusEffect {op : Operation} {s t : State} (h : OperationStep op s t) : StatusEffect s t := by
  cases h with
  | goes hwork => exact .keeps hwork.status hwork.errCode hwork.busy
  | ends => exact .ends (withDone_withoutErr _) rfl rfl
  | raises => exact statusEffect_raiseException ..

theorem statusEffect_startEncode {s u : State} (h : u.status = s.status) : StatusEffect s (startEncode u) := by
  by_cases hfits : Config.within u.inLen u.cap.maxRowBits = true
  · rw [startEncode_of_fits hfits]
    exact .starts (congrArg withoutErr h) (by simp)
  · rw [startEncode_of_not_fits hfits]
    exact statusEffect_raiseException ..

theorem statusEffect_startDecode {s u : State} (h : u.status = s.status) : StatusEffect s (startDecode u) := by
  by_cases hfits : Config.within u.inLen u.cap.maxCodeBytes = true
  · rw [startDecode_of_fits hfits]
    exact .starts (congrArg withoutErr h) (by simp)
  · rw [startDecode_of_not_fits hfits]
    exact statusEffect_raiseException ..

/-- The actions still to come have no part in it, but for a RESET that was the next one. -/
theorem HostEffect.statusEffect {s t : State} {a : HostAction} {rest : List HostAction} (hidle : s.busy = none)
    (hnext : s.pending = a :: rest) (h : HostEffect { s with pending := rest } a t) : StatusEffect s t := by
  cases h with
  | returns r => exact .keeps rfl rfl rfl
  | sets => exact .keeps rfl rfl rfl
  | writes mem addr bytes =>
    rw [writeBytes_eq]
    exact .keeps rfl rfl rfl
  | encodes => exact statusEffect_startEncode rfl
  | decodes => exact statusEffect_startDecode rfl
  | resets => exact .resets hidle (by rw [hnext]; rfl) rfl rfl rfl

theorem step_statusEffect {s t : State} (h : step s = .next t) : StatusEffect s t := by
  cases hbusy : s.busy with
  | some op => exact (step_operationStep hbusy h).statusEffect
  | none =>
    rcases step_of_idle hbusy h with rfl | ⟨a, rest, hnext, hact⟩
    · exact .keeps rfl rfl rfl
    · exact hact.statusEffect hbusy hnext

theorem StatusEffect.resultsAgree {s t : State} (h : StatusEffect s t) (hs : ResultsAgree s) : ResultsAgree t := by
  obtain ⟨hrun, hidle, hdone⟩ := hs
  unfold ResultsAgree
  cases h with
  | keeps hstatus hcode hbusy =>
    have herr : t.err = s.err := congrArg (·.getLsbD 1) hstatus
    have hd : t.done = s.done := congrArg (·.getLsbD 0) hstatus
    rw [herr, hd, hcode, hbusy]
    exact ⟨hrun, hidle, hdone⟩
  | starts hstatus hbusy =>
    have herr : t.err = false := by rw [State.err, hstatus, withoutErr_getLsbD_one]
    simp [herr, hbusy]
  | ends hstatus hcode hbusy =>
    have herr : t.err = false := by rw [State.err, hstatus]; rfl
    simp [herr, hcode]
  | raises hstatus hcode hbusy =>
    have hd : t.done = true := by rw [State.done, hstatus]; rfl
    have herr : t.err = true := by rw [State.err, hstatus]; rfl
    simpa [herr, hd, hbusy] using hcode
  | resets _ _ hstatus hcode hbusy =>
    have herr : t.err = false := by rw [State.err, hstatus]; rfl
    simp [herr, hcode]

theorem StatusEffect.reset_of_done_cleared {s t : State} (h : StatusEffect s t) (hs : s.done = true)
    (ht : t.done = false) : s.busy = none ∧ s.pending.head? = some .reset := by
  unfold State.done at hs ht
  cases h with
  | keeps hstatus => rw [hstatus, hs] at ht; cases ht
  | starts hstatus => rw [hstatus, withoutErr_getLsbD_zero, hs] at ht; cases ht
  | ends hstatus => rw [hstatus] at ht; cases ht
  | raises hstatus => rw [hstatus] at ht; cases ht
  | resets hidle hnext => exact ⟨hidle, hnext⟩

end Sys2Proof.Machine
end

section
/-! SUPPORT. DECODE_ROW in two states with the same inputs: every turn comes to the same (10_state.md R20). -/

namespace Sys2Proof.Machine

/-- Two states in which DECODE_ROW runs with the same input and has come equally far: they agree on what the decoder
reads, and on the pixels written so far. -/
structure DecodesAlike (s s' : State) : Prop where
  busy : s.busy = some .decodeRow
  busy' : s'.busy = some .decodeRow
  pending : s.pending = []
  pending' : s'.pending = []
  ctrl : s'.ctrl = s.ctrl
  expWidth : s'.expWidth = s.expWidth
  cap : s'.cap = s.cap
  decState : s'.decState = s.decState
  curVal : s'.curVal = s.curVal
  curLen : s'.curLen = s.curLen
  trPos : s'.trPos = s.trPos
  trLim : s'.trLim = s.trLim
  nwPos : s'.nwPos = s.nwPos
  stream : ∀ j, j < s.trLim → codeBit s' j = codeBit s j
  pixels : ∀ p, p < s.nwPos → pixBit s' p = pixBit s p

/-- Two states in which an operation has ended with the same results, the pixels where PIX is valid
(60_exceptions.md R132), and the host has no more actions to come. -/
structure SameResults (t t' : State) : Prop where
  idle : t.busy = none
  idle' : t'.busy = none
  pending : t.pending = []
  pending' : t'.pending = []
  status : t'.status = t.status
  outLen : t'.outLen = t.outLen
  errCode : t'.errCode = t.errCode
  errPos : t'.errPos = t.errPos
  pixels : t.errCode = 0 ∨ t.errCode = 2 → ∀ p, p < t.outLen → pixBit t' p = pixBit t p

/-- DECODE_ROW runs alike in both states, or has ended alike in both. -/
def Alike (s s' : State) : Prop := DecodesAlike s s' ∨ SameResults s s'

/-- Two parts of DECODE_ROW come to the same. -/
inductive RunsAlike : DecRun → DecRun → Prop
  | goes {t t' : State} (h : DecodesAlike t t') : RunsAlike (.goes t) (.goes t')
  | ends {t t' : State} (h : SameResults t t') : RunsAlike (.ends t) (.ends t')

theorem RunsAlike.state {r r' : DecRun} (h : RunsAlike r r') : Alike r.state r'.state := by
  cases h with
  | goes h => exact .inl h
  | ends h => exact .inr h

-- ## The operations on the state

variable {s s' : State}

theorem DecodesAlike.trAdvance (h : DecodesAlike s s') (k : Nat) : DecodesAlike (trAdvance k s) (trAdvance k s') :=
  { h with trPos := congrArg (· + k) h.trPos }

theorem DecodesAlike.shiftIn (h : DecodesAlike s s') (b : Bool) : DecodesAlike (shiftIn b s) (shiftIn b s') :=
  { h with curVal := congrArg (shiftBit · b) h.curVal, curLen := congrArg (· + 1) h.curLen }

theorem DecodesAlike.toDecState (h : DecodesAlike s s') (st : DecState) :
    DecodesAlike (toDecState st s) (toDecState st s') :=
  { h with decState := rfl, curVal := rfl, curLen := rfl }

theorem DecodesAlike.nwPut (h : DecodesAlike s s') (c : Color) (n : Nat) : DecodesAlike (nwPut c n s) (nwPut c n s') := by
  have hpix : ∀ p, p < s.nwPos + n → pixBit (Machine.nwPut c n s') p = pixBit (Machine.nwPut c n s) p := by
    intro p hp
    rw [pixBit_nwPut, pixBit_nwPut, h.nwPos]
    split
    next => rfl
    next hout => exact h.pixels p (by omega)
  rw [nwPut_eq c n s, nwPut_eq c n s']
  exact { h with nwPos := congrArg (· + n) h.nwPos, pixels := hpix }

theorem DecodesAlike.nwFits (h : DecodesAlike s s') (n : Nat) : nwFits n s' = nwFits n s := by
  rw [Machine.nwFits, h.nwPos, h.cap, Machine.nwFits]

/-- An exception that leaves PIX unspecified has the same results in any two states. -/
theorem sameResults_raiseException {x : Exc} (hx : x ≠ .widthMismatch) (p : Nat) (hpending : s.pending = [])
    (hpending' : s'.pending = []) :
    SameResults (raiseException x .decodeRow p s) (raiseException x .decodeRow p s') := by
  obtain ⟨hout, -⟩ := raiseException_other hx .decodeRow p s
  obtain ⟨hout', -⟩ := raiseException_other hx .decodeRow p s'
  rw [raiseException_eq x .decodeRow p s, raiseException_eq x .decodeRow p s', hout, hout']
  exact {
    idle := rfl, idle' := rfl, pending := hpending, pending' := hpending'
    status := by simp only [withErr_withDone]
    outLen := rfl, errCode := rfl, errPos := rfl
    pixels := fun _ q hq => absurd hq (Nat.not_lt_zero q) }

theorem DecodesAlike.raise (h : DecodesAlike s s') {x : Exc} (hx : x ≠ .widthMismatch) :
    RunsAlike (decRaise x s.trPos s) (decRaise x s'.trPos s') := by
  rw [h.trPos]
  exact .ends (sameResults_raiseException hx _ h.pending h.pending')

-- ## A turn of the loop (44_decoder.md R104, R117)

theorem DecodesAlike.emitRun (h : DecodesAlike s s') (c : Color) (n : Nat) (st : DecState) :
    RunsAlike (emitRun c n st s) (emitRun c n st s') := by
  have hfits' := h.nwFits n
  rcases emitRun_cases c n st s with ⟨hfits, heq⟩ | ⟨hfits, heq⟩ <;>
    rcases emitRun_cases c n st s' with ⟨hf, heq'⟩ | ⟨hf, heq'⟩ <;> rw [hf, hfits] at hfits'
  · rw [heq, heq']
    exact .goes ((h.nwPut c n).toDecState st)
  · cases hfits'
  · cases hfits'
  · rw [heq, heq']
    exact h.raise (by decide)

theorem DecodesAlike.transition (h : DecodesAlike s s') (r : CodeRef) :
    RunsAlike (transition r s) (transition r s') := by
  cases r with
  | term c n => exact h.emitRun ..
  | makeup c q => exact h.emitRun ..
  | eol => exact .goes (h.toDecState _)
  | reserved p => exact .goes h

theorem DecodesAlike.afterShift (h : DecodesAlike s s') : RunsAlike (afterShift s) (afterShift s') := by
  by_cases hlen : s.curLen ≤ 13
  · rw [afterShift_eq hlen, afterShift_eq (h.curLen ▸ hlen), h.decState, h.curVal, h.curLen]
    cases stringAt s.decState s.curVal s.curLen with
    | none => exact .goes h
    | some r => exact h.transition r
  · have hgt : s.curLen > Config.maxCodeLen := Nat.lt_of_not_le hlen
    rw [Machine.afterShift, if_pos hgt, Machine.afterShift, if_pos (h.curLen ▸ hgt)]
    exact h.raise (by decide)

/-- Parts that come to the same are followed by the same, if the rest of the loop keeps states alike. -/
theorem RunsAlike.goOn {k : Nat} {r r' : DecRun} (h : RunsAlike r r')
    (hrest : ∀ {t t' : State}, DecodesAlike t t' → RunsAlike (readOn k t) (readOn k t')) :
    RunsAlike (goOn k r) (goOn k r') := by
  cases h with
  | ends hend => exact .ends hend
  | @goes t t' hgo =>
    by_cases hlen : t.curLen = 0
    · rw [goOn_goes_of_curLen_eq_zero hlen, goOn_goes_of_curLen_eq_zero (hgo.curLen.trans hlen)]
      exact .goes hgo
    · rw [goOn_goes_of_curLen_ne_zero hlen, goOn_goes_of_curLen_ne_zero (hgo.curLen.trans_ne hlen)]
      exact hrest hgo

theorem DecodesAlike.readOn (h : DecodesAlike s s') (k : Nat) : RunsAlike (readOn k s) (readOn k s') := by
  induction k generalizing s s' with
  | zero => exact .goes h
  | succ k ih =>
    by_cases hin : s.trPos < s.trLim
    · have hin' : s'.trPos < s'.trLim := by rwa [h.trPos, h.trLim]
      have hbit : RunsAlike (decBit (codeBit s s.trPos) (Machine.trAdvance 1 s))
          (decBit (codeBit s' s'.trPos) (Machine.trAdvance 1 s')) := by
        rw [h.trPos, h.stream _ hin]
        exact ((h.trAdvance 1).shiftIn _).afterShift
      rw [readOn_succ hin, readOn_succ hin']
      exact hbit.goOn ih
    · have hin' : ¬ s'.trPos < s'.trLim := by rwa [h.trPos, h.trLim]
      rw [readOn_of_exhausted hin, readOn_of_exhausted hin']
      exact .goes h

-- ## The end (44_decoder.md R115, R116)

/-- Below OUT_LEN the closed row has the pixels written. -/
theorem pixBit_closeRow {p : Nat} (hp : p < s.nwPos) : pixBit (closeRow s) p = pixBit s p := by
  show pixBit (padPix _ s.nwPos s) p = _
  rw [pixBit_padPix, if_neg (by omega)]

theorem DecodesAlike.closeRow_pixels (h : DecodesAlike s s') {p : Nat} (hp : p < s.nwPos) :
    pixBit (closeRow s') p = pixBit (closeRow s) p := by
  rw [pixBit_closeRow hp, pixBit_closeRow (h.nwPos ▸ hp), h.pixels p hp]

theorem DecodesAlike.finishDecode (h : DecodesAlike s s') : SameResults (finishDecode s) (finishDecode s') := by
  have hpix := fun p => h.closeRow_pixels (p := p)
  have hstrict : s'.strict = s.strict := congrArg (·.getLsbD 0) h.ctrl
  rw [finishDecode_eq, finishDecode_eq, hstrict, h.nwPos, h.expWidth, h.trPos]
  split
  next =>
    rw [raiseException_widthMismatch, raiseException_widthMismatch]
    rw [closeRow_eq s, closeRow_eq s'] at hpix ⊢
    exact {
      idle := rfl, idle' := rfl, pending := h.pending, pending' := h.pending'
      status := by simp only [reportException_status, withErr_withDone]
      outLen := h.nwPos, errCode := rfl, errPos := rfl
      pixels := fun _ => hpix }
  next =>
    rw [closeRow_eq s, closeRow_eq s'] at hpix ⊢
    exact {
      idle := rfl, idle' := rfl, pending := h.pending, pending' := h.pending'
      status := by simp only [endNormally_status, withDone_withoutErr]
      outLen := h.nwPos, errCode := rfl, errPos := rfl
      pixels := fun _ => hpix }

-- ## Steps and runs

/-- A step in one of two states alike is a step in the other, and leaves them alike. -/
theorem Alike.step {t : State} (h : Alike s s') (hstep : step s = .next t) :
    ∃ t', Machine.step s' = .next t' ∧ Alike t t' := by
  rcases h with hrun | hend
  · rcases step_of_decoding hrun.busy hstep with ⟨hin, rfl⟩ | ⟨hlim, rfl⟩
    · have hin' : s'.trPos < s'.trLim := by rwa [hrun.trPos, hrun.trLim]
      exact ⟨_, stringStepEqualsBitSteps s' hrun.busy' hin', (hrun.readOn 14).state⟩
    · have hlim' : s'.trPos = s'.trLim := by rwa [hrun.trPos, hrun.trLim]
      exact ⟨_, step_of_input_ended hrun.busy' hlim', .inr hrun.finishDecode⟩
  · rw [step_of_waiting hend.idle hend.pending] at hstep
    cases hstep
    exact ⟨_, step_of_waiting hend.idle' hend.pending', .inr hend⟩

theorem run_succ_of_step {M : Host.Core} {x y : M.State} (h : M.step x = .next y) (k : Nat) :
    M.run (k + 1) x = M.run k y := by
  rw [Host.Core.run, h]

/-- A run that goes through has a first step. -/
theorem step_of_run_succ {M : Host.Core} {k : Nat} {x z : M.State} (h : M.run (k + 1) x = .next z) :
    ∃ y, M.step x = .next y ∧ M.run k y = .next z := by
  rw [Host.Core.run] at h
  split at h
  next y hy => exact ⟨y, hy, h⟩
  next => cases h
  next => cases h

theorem Alike.run {k : Nat} {t : State} (h : Alike s s') (hrun : Host.Core.run core k s = .next t) :
    ∃ t', Host.Core.run core k s' = .next t' ∧ Alike t t' := by
  induction k generalizing s s' with
  | zero =>
    cases hrun
    exact ⟨s', rfl, h⟩
  | succ k ih =>
    obtain ⟨u, hstep, hrest⟩ := step_of_run_succ hrun
    obtain ⟨u', hstep', hu⟩ := h.step hstep
    obtain ⟨t', hrun', ht⟩ := ih hu hrest
    exact ⟨t', (run_succ_of_step (M := core) hstep' k).trans hrun', ht⟩

-- ## The start (44_decoder.md R117)

/-- The bytes of the input are the same, and so are its bits. -/
theorem SameDecodeInputs.codeBit (h : SameDecodeInputs s s') {j : Nat} (hj : j < 8 * s.inLen) :
    codeBit s' j = codeBit s j := by
  obtain ⟨-, -, -, -, hbytes⟩ := h
  rw [Machine.codeBit, Machine.codeBit, hbytes (j / 8) (by omega)]

theorem SameDecodeInputs.startDecode (h : SameDecodeInputs s s') (hpending : s.pending = [])
    (hpending' : s'.pending = []) : Alike (startDecode s) (startDecode s') := by
  have hstream := fun j => h.codeBit (j := j)
  obtain ⟨hin, hctrl, hexp, hcap, -⟩ := h
  by_cases hfits : Config.within s.inLen s.cap.maxCodeBytes = true
  · rw [startDecode_of_fits hfits, startDecode_of_fits (hin ▸ hcap ▸ hfits)]
    exact .inl {
      busy := rfl, busy' := rfl, pending := hpending, pending' := hpending'
      ctrl := hctrl.symm, expWidth := hexp.symm, cap := hcap.symm
      decState := rfl, curVal := rfl, curLen := rfl, trPos := rfl, trLim := congrArg (8 * ·) hin.symm, nwPos := rfl
      stream := hstream
      pixels := fun p hp => absurd hp (Nat.not_lt_zero p) }
  · rw [startDecode_of_not_fits hfits, startDecode_of_not_fits (hin ▸ hcap ▸ hfits)]
    exact .inr (sameResults_raiseException (by decide) 0 hpending hpending')

/-- The step that starts DECODE_ROW. -/
theorem AboutToRun.step_decodeRow (h : AboutToRun .decodeRow s) :
    step s = .next (startDecode { s with pending := [] }) := by
  obtain ⟨hidle, a, hnext, ha⟩ := h
  rw [step, hidle]
  show hostTurn s = _
  rw [hostTurn, hnext]
  show exec a.instr _ = _
  rw [ha]
  exact whenIdle_of_idle hidle _

end Sys2Proof.Machine
end

section
/-! PROOFS. The statements of 10_state.md. -/

namespace Sys2Proof.Machine

/-- Settles O44: the next action of the host, a turn of ENCODE_ROW and a turn of DECODE_ROW each keep the invariant. -/
theorem everyStepKeepsTheInvariant : Obligations.EveryStepKeepsTheInvariant :=
  fun _ _ hinv hstep => hinv.step hstep

/-- Settles O45, from the five things a step can do to STATUS and ERR_CODE. -/
theorem everyStepKeepsStatusConsistent : Obligations.EveryStepKeepsStatusConsistent :=
  fun _ _ hagree hstep => (step_statusEffect hstep).resultsAgree hagree

/-- Settles O51: the first step starts DECODE_ROW alike in both states, and every later step keeps them alike, until the
operation has ended in both with the same results. -/
theorem decodeRowDependsOnItsInputsOnly : Obligations.DecodeRowDependsOnItsInputsOnly := by
  intro s s' t k hs hs' hsame hk hrun hend
  obtain ⟨k, rfl⟩ := Nat.exists_eq_add_one_of_ne_zero hk.ne'
  have hstart : Alike (startDecode { s with pending := [] }) (startDecode { s' with pending := [] }) :=
    SameDecodeInputs.startDecode (s := { s with pending := [] }) (s' := { s' with pending := [] }) hsame rfl rfl
  have hfirst := run_succ_of_step (M := core) hs.step_decodeRow k
  have hfirst' := run_succ_of_step (M := core) hs'.step_decodeRow k
  obtain ⟨t', hrun', hrunning | hres⟩ := hstart.run (hfirst.symm.trans hrun)
  · rw [hrunning.busy] at hend
    cases hend
  · exact ⟨t', hfirst'.trans hrun', hres.idle', hres.status, hres.outLen, hres.errCode, hres.errPos, hres.pixels⟩

/-- Settles O46, from the five things a step can do to STATUS and ERR_CODE. -/
theorem onlyResetClearsDone : Obligations.OnlyResetClearsDone :=
  fun _ _ hdone hstep hcleared => (step_statusEffect hstep).reset_of_done_cleared hdone hcleared

/-- Settles O47: however a step of an operation comes out, its inputs stay. -/
theorem operationsLeaveHostRegistersAndTheirInput : Obligations.OperationsLeaveHostRegistersAndTheirInput := by
  intro s t hbusy hstep
  obtain ⟨op, hop⟩ := Option.ne_none_iff_exists'.1 hbusy
  obtain ⟨hctrl, hin, hexp, hcap, hinput⟩ := (step_operationStep hop hstep).inputs
  refine ⟨hctrl, hin, hexp, hcap, fun henc => ?_, fun hdec => ?_⟩
  · cases hop.symm.trans henc
    exact hinput
  · cases hop.symm.trans hdec
    exact hinput

end Sys2Proof.Machine
end

section
/-! SUPPORT. The host while an operation runs: its actions are refused, and no turn of the operation takes one off the
host's list (20_memory.md R41). -/

namespace Sys2Proof.Machine

theorem whenIdle_of_busy {s : State} (h : s.busy ≠ none) (o : Host.Outcome State Fault Refusal) :
    whenIdle s o = .refused .operationRunning :=
  if_neg h

-- ## The actions to come, in the operations on the state

@[simp] theorem twPutBits_pending (bs : List Bool) (s : State) : (twPutBits bs s).pending = s.pending := by
  rw [twPutBits_eq]

@[simp] theorem nwPut_pending (c : Color) (n : Nat) (s : State) : (nwPut c n s).pending = s.pending := by
  rw [nwPut_eq]

@[simp] theorem closeRow_pending (s : State) : (closeRow s).pending = s.pending := by
  rw [closeRow_eq]

@[simp] theorem raiseException_pending (x : Exc) (op : Operation) (p : Nat) (s : State) :
    (raiseException x op p s).pending = s.pending := by
  rw [raiseException_eq]

-- ## A turn of either operation

theorem EncodeEffect.pending_eq {s t : State} (h : EncodeEffect s t) : t.pending = s.pending := by
  cases h with
  | counts => rfl
  | flushes c bs => exact twPutBits_pending bs (nrAdvance 1 s)
  | ends bs => exact twPutBits_pending bs s

theorem BitEffect.meets_pending_eq {l : List HostAction} {b : Bool} {s : State} {r : DecRun} (h : BitEffect b s r)
    (hs : s.pending = l) : r.Meets (·.pending = l) (·.pending = l) := by
  cases h with
  | accumulates => exact hs
  | resynchronises => exact hs
  | emits c n => exact (nwPut_pending c n s).trans hs
  | raises x => exact (raiseException_pending x _ _ s).trans hs

theorem readOn_pending (k : Nat) (s : State) : (readOn k s).state.pending = s.pending :=
  DecRun.Meets.state (P := (·.pending = s.pending))
    (readOn_meets (fun _ _ hu => (decBit_effect _ _).meets_pending_eq hu) k rfl)

theorem finishDecode_pending (s : State) : (finishDecode s).pending = s.pending := by
  rw [finishDecode_eq]
  split
  · rw [raiseException_pending, closeRow_pending]
  · rw [endNormally_pending, closeRow_pending]

theorem step_pending_of_busy {s t : State} (hbusy : s.busy ≠ none) (hstep : step s = .next t) :
    t.pending = s.pending := by
  obtain ⟨op, hop⟩ := Option.ne_none_iff_exists'.1 hbusy
  cases op with
  | encodeRow => exact (step_of_encoding hop hstep).pending_eq
  | decodeRow =>
    rcases step_of_decoding hop hstep with ⟨-, rfl⟩ | ⟨-, rfl⟩
    · exact readOn_pending 14 s
    · exact finishDecode_pending s

end Sys2Proof.Machine
end

section
/-! PROOFS. The statements of 20_memory.md. -/

namespace Sys2Proof.Machine

/-- Settles O38: every one of the six runs only between operations, and a turn of either operation leaves the host's
list. -/
theorem hostActionsWaitForTheOperation : Obligations.HostActionsWaitForTheOperation := by
  refine ⟨fun s reg v a n m bytes hbusy => ?_, fun s t hbusy hstep => step_pending_of_busy hbusy hstep⟩
  have hrefused := whenIdle_of_busy hbusy
  exact ⟨hrefused _, hrefused _, hrefused _, hrefused _, hrefused _, hrefused _⟩

end Sys2Proof.Machine
end

section
/-! SUPPORT. The strings of the stream as a prefix code: the bits of the accumulator, the leaves of the decoder's tree,
and that bits behind a whole string are never a string again (30_encoding.md R55, R58). -/

namespace Sys2Proof

-- ## The accumulator and the bits read into it

/-- A bit in the accumulator moves up by one place for each bit read after it. -/
theorem getLsbD_foldl_shiftBit (bs : List Bool) (v : BitVec 14) (j : Nat) (h : bs.length + j < 14) :
    (bs.foldl shiftBit v).getLsbD (bs.length + j) = v.getLsbD j := by
  induction bs generalizing v j with
  | nil => simp
  | cons b bs ih =>
    rw [List.length_cons] at h ⊢
    have hj : ¬ bs.length + 1 + j = bs.length := by omega
    rw [List.foldl_cons, Nat.add_right_comm, Nat.add_assoc, ih _ _ (by omega)]
    rw [BitVec.getLsbD_eq_getElem (show j < 14 by omega), BitVec.getLsbD_eq_getElem (show j + 1 < 14 by omega)]
    cases b <;> simp [shiftBit]

/-- At most 13 bits are kept whole: the code of the accumulated value and length has them again as its bits. -/
theorem bitsMsbFirst_foldl_shiftBit (bs : List Bool) (v : BitVec 14) (h : bs.length ≤ 13) :
    bitsMsbFirst bs.length ((bs.foldl shiftBit v).setWidth 13) = bs := by
  induction bs generalizing v with
  | nil => rfl
  | cons b bs ih =>
    rw [List.length_cons] at h
    have hhead : (bs.foldl shiftBit (shiftBit v b)).getLsbD bs.length = b := by
      have hbit := getLsbD_foldl_shiftBit bs (shiftBit v b) 0 (by omega)
      rw [Nat.add_zero] at hbit
      rw [hbit]
      cases b <;> simp [shiftBit]
    rw [List.length_cons, bitsMsbFirst, List.foldl_cons, ih _ (by omega), BitVec.getLsbD_setWidth, hhead]
    simp [show bs.length < 13 by omega]

/-- A code that equals the accumulated pair has the accumulated bits. -/
theorem Code.bits_eq_of_matchesAcc {k : Code} {bs : List Bool} (hlen : bs.length ≤ 13)
    (h : k.matchesAcc (bs.foldl shiftBit 0) bs.length = true) : k.bits = bs := by
  obtain ⟨hl, hv⟩ := (Code.matchesAcc_iff _ _ _).1 h
  have hvalue : k.value = (bs.foldl shiftBit 0).setWidth 13 := by
    rw [← hv, BitVec.setWidth_setWidth_of_le _ (by omega), BitVec.setWidth_eq]
  rw [Code.bits, hl, hvalue, bitsMsbFirst_foldl_shiftBit bs 0 hlen]

/-- The string that bits read from an empty accumulator are has these bits. -/
theorem bits_of_stringAt {st : DecState} {bs : List Bool} {r : CodeRef} (hlen : bs.length ≤ 13)
    (h : stringAt st (bs.foldl shiftBit 0) bs.length = some r) : r.code.bits = bs :=
  Code.bits_eq_of_matchesAcc hlen (stringAt_sound h).1

-- ## Reading one instruction

theorem instrAt_of_stringAt {st : DecState} {v : BitVec 14} {l : Nat} {r : CodeRef} {i : Instr}
    (h : stringAt st v l = some r) (hi : codeInstr r = some i) : instrAt st v l = some i := by
  rw [instrAt, h, Option.bind_some, hi]

theorem decodeFrom_of_stringAt {st : DecState} {v : BitVec 14} {l : Nat} {b : Bool} {r : CodeRef} {i : Instr}
    (hlen : l + 1 ≤ 13) (h : stringAt st (shiftBit v b) (l + 1) = some r) (hi : codeInstr r = some i)
    (bs : List Bool) : decodeFrom st v l (b :: bs) = .instr i (l + 1) := by
  rw [decodeFrom, if_neg (by simpa [Config.maxCodeLen] using hlen), instrAt_of_stringAt h hi]

theorem decodeFrom_of_stringAt_eq_none {st : DecState} {v : BitVec 14} {l : Nat} {b : Bool} (hlen : l + 1 ≤ 13)
    (h : stringAt st (shiftBit v b) (l + 1) = none) (bs : List Bool) :
    decodeFrom st v l (b :: bs) = decodeFrom st (shiftBit v b) (l + 1) bs := by
  rw [decodeFrom, if_neg (by simpa [Config.maxCodeLen] using hlen), instrAt, h]
  rfl

/-- An instruction read from a stream is one that some first bits of it are a string of. -/
theorem decodeFrom_sound {st : DecState} {v : BitVec 14} {l n : Nat} {bs : List Bool} {i : Instr}
    (h : decodeFrom st v l bs = .instr i n) :
    ∃ pre r, pre <+: bs ∧ n = l + pre.length ∧ n ≤ 13 ∧ codeInstr r = some i ∧
      stringAt st (pre.foldl shiftBit v) n = some r := by
  induction bs generalizing v l with
  | nil => cases h
  | cons b bs ih =>
    obtain ⟨hlen, ⟨hi, rfl⟩ | ⟨-, hrest⟩⟩ := Machine.decodeFrom_cons_eq_instr h
    · obtain ⟨r, hr, hri⟩ := Option.bind_eq_some_iff.1 hi
      exact ⟨[b], r, by simp, rfl, hlen, hri, hr⟩
    · obtain ⟨pre, r, hpre, hn, hle, hri, hr⟩ := ih hrest
      exact ⟨b :: pre, r, by simpa using hpre, by rw [List.length_cons]; omega, hle, hri, hr⟩

/-- An instruction read from an empty accumulator is a string of the state, whose bits the stream begins with. -/
theorem decodeBits_sound {st : DecState} {n : Nat} {bs : List Bool} {i : Instr} (h : decodeBits st bs = .instr i n) :
    ∃ r, codeInstr r = some i ∧ r.legalIn st = true ∧ r.code.len = n ∧ r.code.bits <+: bs := by
  obtain ⟨pre, r, hpre, hn, hle, hi, hr⟩ := decodeFrom_sound h
  obtain rfl : n = pre.length := by omega
  obtain ⟨hmatch, hlegal, -⟩ := stringAt_sound hr
  exact ⟨r, hi, hlegal, ((Code.matchesAcc_iff _ _ _).1 hmatch).1, bits_of_stringAt hle hr ▸ hpre⟩

/-- Bits behind a whole instruction are not looked at. -/
theorem decodeFrom_append {st : DecState} {v : BitVec 14} {l n : Nat} {bs : List Bool} {i : Instr}
    (h : decodeFrom st v l bs = .instr i n) (more : List Bool) : decodeFrom st v l (bs ++ more) = .instr i n := by
  induction bs generalizing v l with
  | nil => cases h
  | cons b bs ih =>
    rw [List.cons_append]
    obtain ⟨hlen, ⟨hi, rfl⟩ | ⟨hnone, hrest⟩⟩ := Machine.decodeFrom_cons_eq_instr h
    · obtain ⟨r, hr, hri⟩ := Option.bind_eq_some_iff.1 hi
      exact decodeFrom_of_stringAt hlen hr hri _
    · rw [decodeFrom_of_stringAt_eq_none hlen (stringAt_eq_none_of_instrAt hnone)]
      exact ih hrest

/-- Where no instruction is read, fourteen bits overflow the accumulator and fewer end with the input. -/
theorem decodeFrom_of_no_instr {st : DecState} {v : BitVec 14} {l : Nat} {bs : List Bool} (hlen : l ≤ 13)
    (h : ∀ i n, decodeFrom st v l bs ≠ .instr i n) :
    decodeFrom st v l bs = if 14 ≤ l + bs.length then .noCode else .inputEnds := by
  induction bs generalizing v l with
  | nil => rw [List.length_nil, if_neg (by omega)]; rfl
  | cons b bs ih =>
    by_cases h13 : l + 1 ≤ 13
    · cases hr : stringAt st (shiftBit v b) (l + 1) with
      | some r =>
        obtain ⟨i, hi⟩ := Option.isSome_iff_exists.1 (stringAt_sound hr).2.2
        exact absurd (decodeFrom_of_stringAt h13 hr hi bs) (h i (l + 1))
      | none =>
        have hcons := decodeFrom_of_stringAt_eq_none h13 hr bs
        rw [hcons, ih h13 (hcons ▸ h), List.length_cons, Nat.add_right_comm, Nat.add_assoc]
    · rw [decodeFrom, if_pos (by simpa [Config.maxCodeLen] using h13), List.length_cons, if_pos (by omega)]

-- ## The strings of a colour are the leaves of the decoder's tree

/-- The strings tried in the Expecting state of a colour (30_encoding.md R58, R59). -/
def stringsOf (c : Color) : List CodeRef :=
  (List.range 64).map (.term c) ++ (List.range 40).map (fun j => .makeup c (64 * (j + 1))) ++
    [.eol, .reserved .zeros8one, .reserved .zeros9one, .reserved .zeros10one, .reserved .zeros12]

theorem DecState.color_expect (c : Color) : (DecState.expect c).color = c := by cases c <;> rfl

theorem mem_stringsOf {c : Color} {r : CodeRef} (hsome : (codeInstr r).isSome = true)
    (hlegal : r.legalIn (.expect c) = true) : r ∈ stringsOf c := by
  cases r with
  | term c' n =>
    obtain rfl : c' = c := by simpa [CodeRef.legalIn, DecState.color_expect] using hlegal
    have hn : n < 64 := by
      cases c' with
      | white => simpa [codeInstr, whiteTermInstrs] using hsome
      | black => simpa [codeInstr, blackTermInstrs] using hsome
    simp [stringsOf, hn]
  | makeup c' q =>
    obtain rfl : c' = c := by simpa [DecState.color_expect] using congrArg DecState.color (legalIn_makeup hlegal).symm
    have hq : isQuantum q = true := by
      by_contra hq
      cases c' <;> simp [codeInstr, hq] at hsome
    obtain ⟨j, hj, rfl⟩ := (isQuantum_iff q).1 hq
    simp [stringsOf, hj]
  | eol => simp [stringsOf]
  | reserved p => cases p <;> simp [stringsOf]

/-- The leaves of the decoder's tree below given accumulated bits, at most `k` bits further down: the string each way
on is read as, or `none` where `k` bits are not enough. -/
def leaves (st : DecState) : Nat → BitVec 14 → Nat → List (Option CodeRef)
  | 0, _, _ => [none]
  | k + 1, v, l =>
    [false, true].flatMap fun b =>
      match stringAt st (shiftBit v b) (l + 1) with
      | some r => [some r]
      | none => leaves st k (shiftBit v b) (l + 1)

/-- The 109 strings of a colour are the leaves of its tree of 13 bits, each once and no other: the tree is walked, two
bits at each of its 108 inner nodes. -/
theorem leaves_perm_stringsOf (c : Color) : (leaves (.expect c) 13 0 0).Perm ((stringsOf c).map some) := by
  cases c <;> decide

theorem mem_leaves_succ {st : DecState} {k l : Nat} {v : BitVec 14} {x : Option CodeRef} :
    x ∈ leaves st (k + 1) v l ↔
      ∃ b, (∃ r, stringAt st (shiftBit v b) (l + 1) = some r ∧ x = some r) ∨
        (stringAt st (shiftBit v b) (l + 1) = none ∧ x ∈ leaves st k (shiftBit v b) (l + 1)) := by
  rw [leaves, List.mem_flatMap]
  refine exists_congr fun b => ?_
  have hb : b ∈ [false, true] := by cases b <;> simp
  rw [and_iff_right hb]
  cases stringAt st (shiftBit v b) (l + 1) <;> simp

/-- A leaf is read from the bits on the way to it. -/
theorem exists_decodeFrom_of_mem_leaves {st : DecState} {k l : Nat} {v : BitVec 14} {r : CodeRef} (hk : l + k ≤ 13)
    (h : some r ∈ leaves st k v l) :
    ∃ bs i, codeInstr r = some i ∧ decodeFrom st v l bs = .instr i (l + bs.length) := by
  induction k generalizing v l with
  | zero => simp [leaves] at h
  | succ k ih =>
    obtain ⟨b, ⟨r', hr, hrr⟩ | ⟨hnone, hmem⟩⟩ := mem_leaves_succ.1 h
    · cases hrr
      obtain ⟨i, hi⟩ := Option.isSome_iff_exists.1 (stringAt_sound hr).2.2
      exact ⟨[b], i, hi, decodeFrom_of_stringAt (by omega) hr hi []⟩
    · obtain ⟨bs, i, hi, hbs⟩ := ih (by omega) hmem
      refine ⟨b :: bs, i, hi, ?_⟩
      rw [decodeFrom_of_stringAt_eq_none (by omega) hnone, hbs, List.length_cons]
      congr 1
      omega

/-- Where every way on ends in a string, as many bits as the tree is deep are read as an instruction. -/
theorem exists_instr_of_none_notMem_leaves {st : DecState} {k l : Nat} {v : BitVec 14} {bs : List Bool}
    (hk : l + k ≤ 13) (hbs : k ≤ bs.length) (h : none ∉ leaves st k v l) : ∃ i n, decodeFrom st v l bs = .instr i n := by
  induction k generalizing v l bs with
  | zero => simp [leaves] at h
  | succ k ih =>
    obtain ⟨b, bs, rfl⟩ := List.exists_cons_of_length_pos (by omega : 0 < bs.length)
    cases hr : stringAt st (shiftBit v b) (l + 1) with
    | some r =>
      obtain ⟨i, hi⟩ := Option.isSome_iff_exists.1 (stringAt_sound hr).2.2
      exact ⟨i, l + 1, decodeFrom_of_stringAt (by omega) hr hi bs⟩
    | none =>
      rw [decodeFrom_of_stringAt_eq_none (by omega) hr]
      exact ih (by omega) (by simpa using hbs) fun hmem => h (mem_leaves_succ.2 ⟨b, .inr ⟨hr, hmem⟩⟩)

/-- Thirteen bits or more always begin with an instruction, in the Expecting state of a colour. -/
theorem exists_decodeBits_expect (c : Color) {bs : List Bool} (hbs : 13 ≤ bs.length) :
    ∃ i n, decodeBits (.expect c) bs = .instr i n := by
  refine exists_instr_of_none_notMem_leaves (k := 13) (by omega) hbs ?_
  rw [(leaves_perm_stringsOf c).mem_iff]
  simp

/-- The bits of a string are read as its instruction and no sooner, in the Expecting state of its colour. -/
theorem decodeBits_bits_expect {c : Color} {r : CodeRef} {i : Instr} (hi : codeInstr r = some i)
    (hlegal : r.legalIn (.expect c) = true) : decodeBits (.expect c) r.code.bits = .instr i r.code.bits.length := by
  have hmem : some r ∈ leaves (.expect c) 13 0 0 :=
    (leaves_perm_stringsOf c).mem_iff.2 (List.mem_map_of_mem (mem_stringsOf (by simp [hi]) hlegal))
  obtain ⟨bs, i', hi', hbs⟩ := exists_decodeFrom_of_mem_leaves (by omega) hmem
  cases hi.symm.trans hi'
  rw [Nat.zero_add] at hbs
  obtain ⟨r', hr', -, hlen, hprefix⟩ := decodeBits_sound hbs
  obtain rfl : r' = r := Option.some.inj ((codeRefOf_codeInstr hr').symm.trans (codeRefOf_codeInstr hi))
  have hbits : r'.code.bits = bs := hprefix.eq_of_length (by rw [Code.length_bits, hlen])
  rw [hbits]
  exact hbs

-- ## No string of a colour is a prefix of another

/-- The strings of a colour that a stream begins with are one (30_encoding.md R55). -/
theorem string_unique {c : Color} {r r' : CodeRef} {bs : List Bool} (hr : (codeInstr r).isSome = true)
    (hr' : (codeInstr r').isSome = true) (hlegal : r.legalIn (.expect c) = true)
    (hlegal' : r'.legalIn (.expect c) = true) (h : r.code.bits <+: bs) (h' : r'.code.bits <+: bs) : r' = r := by
  obtain ⟨i, hi⟩ := Option.isSome_iff_exists.1 hr
  obtain ⟨i', hi'⟩ := Option.isSome_iff_exists.1 hr'
  obtain ⟨more, rfl⟩ := h
  obtain ⟨more', heq⟩ := h'
  have hread : decodeBits (.expect c) (r.code.bits ++ more) = _ :=
    decodeFrom_append (decodeBits_bits_expect hi hlegal) more
  have hread' : decodeBits (.expect c) (r'.code.bits ++ more') = _ :=
    decodeFrom_append (decodeBits_bits_expect hi' hlegal') more'
  rw [heq, hread] at hread'
  obtain ⟨rfl, -⟩ := Decoded.instr.inj hread'
  exact Option.some.inj ((codeRefOf_codeInstr hi').symm.trans (codeRefOf_codeInstr hi))

/-- The Expecting state of a colour tries every string that a state of the colour tries. -/
theorem legalIn_expect {st : DecState} {r : CodeRef} (h : r.legalIn st = true) :
    r.legalIn (.expect st.color) = true := by
  cases r with
  | term c n => simpa [CodeRef.legalIn, DecState.color_expect] using h
  | makeup c q =>
    obtain rfl := legalIn_makeup h
    rwa [DecState.color_expect]
  | eol => rfl
  | reserved p => rfl

/-- A state that no makeup code is read in reads the same strings as the Expecting state of its colour
(30_encoding.md R59). -/
theorem stringAt_eq_expect {st : DecState} {v : BitVec 14} {l : Nat}
    (h : ∀ c q, stringAt (.expect st.color) v l ≠ some (.makeup c q)) :
    stringAt st v l = stringAt (.expect st.color) v l := by
  have hexpecting : (DecState.expect st.color).expecting = true := by cases st <;> rfl
  unfold stringAt at h ⊢
  rw [DecState.color_expect, hexpecting, if_pos rfl] at h ⊢
  split
  next => rfl
  next heol =>
    rw [if_neg heol] at h
    cases hq : matchMakeup st.color v l with
    | some q => exact absurd (by rw [hq]) (h st.color q)
    | none => rw [ite_self]

/-- A string read in the Expecting state is read in each state of the colour that tries it. -/
theorem stringAt_of_expect {st : DecState} {v : BitVec 14} {l : Nat} {r : CodeRef}
    (h : stringAt (.expect st.color) v l = some r) (hlegal : r.legalIn st = true) : stringAt st v l = some r := by
  cases r with
  | makeup c q =>
    obtain rfl := legalIn_makeup hlegal
    rwa [DecState.color_expect] at h
  | term c n => rw [stringAt_eq_expect (by simp [h]), h]
  | eol => rw [stringAt_eq_expect (by simp [h]), h]
  | reserved p => rw [stringAt_eq_expect (by simp [h]), h]

/-- Bits that the Expecting state reads as a string of a state of the colour are read as it in that state. -/
theorem decodeFrom_of_expect {st : DecState} {v : BitVec 14} {l n : Nat} {bs : List Bool} {r : CodeRef} {i : Instr}
    (hi : codeInstr r = some i) (hlegal : r.legalIn st = true)
    (h : decodeFrom (.expect st.color) v l bs = .instr i n) : decodeFrom st v l bs = .instr i n := by
  induction bs generalizing v l with
  | nil => cases h
  | cons b bs ih =>
    obtain ⟨hlen, ⟨hread, rfl⟩ | ⟨hnone, hrest⟩⟩ := Machine.decodeFrom_cons_eq_instr h
    · obtain ⟨r', hr', href⟩ := instrAt_eq_some hread
      obtain rfl : r' = r := Option.some.inj (href.symm.trans (codeRefOf_codeInstr hi))
      exact decodeFrom_of_stringAt hlen (stringAt_of_expect hr' hlegal) hi bs
    · have hstring := stringAt_eq_none_of_instrAt hnone
      rw [decodeFrom_of_stringAt_eq_none hlen (by rw [stringAt_eq_expect (by simp [hstring]), hstring])]
      exact ih hrest

/-- The bits of a string, in a state that tries it, are read as its instruction whatever follows (30_encoding.md R55). -/
theorem decodeBits_bits_append {st : DecState} {r : CodeRef} {i : Instr} (hi : codeInstr r = some i)
    (hlegal : r.legalIn st = true) (more : List Bool) :
    decodeBits st (r.code.bits ++ more) = .instr i r.code.len := by
  rw [← Code.length_bits]
  exact decodeFrom_append (decodeFrom_of_expect hi hlegal (decodeBits_bits_expect hi (legalIn_expect hlegal))) more

/-- Bits that go on behind a string of the colour are no string of any state of the colour. -/
theorem stringAt_bits_append_eq_none {st : DecState} {r : CodeRef} (hr : (codeInstr r).isSome = true)
    (hlegal : r.legalIn (.expect st.color) = true) {more : List Bool} (hmore : more ≠ [])
    (hlen : (r.code.bits ++ more).length ≤ 13) :
    stringAt st ((r.code.bits ++ more).foldl shiftBit 0) (r.code.bits ++ more).length = none := by
  by_contra hne
  obtain ⟨r', hr'⟩ := Option.ne_none_iff_exists'.1 hne
  obtain ⟨-, hlegal', hsome'⟩ := stringAt_sound hr'
  have hbits := bits_of_stringAt hlen hr'
  have heq := string_unique hsome' hr (legalIn_expect hlegal') hlegal (List.prefix_refl _)
    (hbits ▸ List.prefix_append _ _)
  rw [heq] at hbits
  exact hmore (List.self_eq_append_right.1 hbits)

/-- Bits that begin with a string of the colour that the state does not try are no instruction (30_encoding.md R59). -/
theorem decodeBits_of_not_legalIn {st : DecState} {r : CodeRef} (hr : (codeInstr r).isSome = true)
    (hlegal : r.legalIn (.expect st.color) = true) (hnot : ¬ r.legalIn st = true) {bs : List Bool}
    (h : r.code.bits <+: bs) : decodeBits st bs = if 14 ≤ bs.length then .noCode else .inputEnds := by
  have hno : ∀ i n, decodeFrom st 0 0 bs ≠ .instr i n := by
    intro i n hin
    obtain ⟨r', hi', hlegal', -, hprefix⟩ := decodeBits_sound hin
    have heq := string_unique hr (by simp [hi']) hlegal (legalIn_expect hlegal') h hprefix
    exact hnot (heq ▸ hlegal')
  rw [decodeBits, decodeFrom_of_no_instr (by omega) hno, Nat.zero_add]

end Sys2Proof
end

section
/-! SUPPORT. The bytes of a string and its encoding as an instruction (20_memory.md R36, 30_encoding.md R57, R60). -/

namespace Sys2Proof

-- ## Stream bits as bytes

/-- The number a byte is packed from has the stream bits as its binary digits, the first one lowest. -/
theorem testBit_foldr_bitNat (bs : List Bool) (j : Nat) :
    (bs.foldr (fun b rest => bitNat b + 2 * rest) 0).testBit j = bs.getD j false := by
  induction bs generalizing j with
  | nil => simp
  | cons b bs ih =>
    have hbit (n : Nat) : bitNat b + 2 * n = Nat.bit b n := by cases b <;> simp [bitNat, Nat.bit_val, Nat.add_comm]
    rw [List.foldr_cons, hbit]
    cases j with
    | zero => rw [Nat.testBit_bit_zero, List.getD_cons_zero]
    | succ j => rw [Nat.testBit_bit_succ, ih, List.getD_cons_succ]

theorem byteBits_eq_map (x : Byte) : byteBits x = (List.range 8).map x.getLsbD := rfl

theorem length_byteBits (x : Byte) : (byteBits x).length = 8 := rfl

theorem getLsbD_packByte (bs : List Bool) {j : Nat} (hj : j < 8) : (packByte bs).getLsbD j = bs.getD j false := by
  rw [packByte, BitVec.getLsbD_ofNat, testBit_foldr_bitNat, decide_eq_true hj, Bool.true_and]

/-- Up to eight bits are the first bits of their byte. -/
theorem prefix_byteBits_packByte {bs : List Bool} (h : bs.length ≤ 8) : bs <+: byteBits (packByte bs) := by
  rw [List.prefix_iff_getElem]
  refine ⟨h, fun j hj => ?_⟩
  have hbit := getLsbD_packByte bs (show j < 8 by omega)
  rw [List.getD_eq_getElem _ _ hj] at hbit
  simp only [byteBits_eq_map, List.getElem_map, List.getElem_range, hbit]

/-- Enough bytes for some stream bits begin with these bits. -/
theorem prefix_flatMap_byteBits_packBytes {k : Nat} {bs : List Bool} (h : bs.length ≤ 8 * k) :
    bs <+: (packBytes k bs).flatMap byteBits := by
  induction k generalizing bs with
  | zero =>
    obtain rfl : bs = [] := List.length_eq_zero_iff.1 (by omega)
    exact List.nil_prefix
  | succ k ih =>
    have hhead : bs.take 8 <+: byteBits (packByte (bs.take 8)) := prefix_byteBits_packByte (List.length_take_le 8 bs)
    have htail : bs.drop 8 <+: (packBytes k (bs.drop 8)).flatMap byteBits := ih (by rw [List.length_drop]; omega)
    rw [packBytes, List.flatMap_cons]
    by_cases hshort : bs.length ≤ 8
    · rw [List.take_of_length_le hshort] at hhead ⊢
      exact hhead.trans (List.prefix_append _ _)
    · have hwhole : bs.take 8 = byteBits (packByte (bs.take 8)) :=
        hhead.eq_of_length (by rw [List.length_take, length_byteBits]; omega)
      rw [← hwhole]
      conv_lhs => rw [← List.take_append_drop 8 bs]
      exact (List.prefix_append_right_inj _).2 htail

theorem prefix_flatMap_byteBits_bitsToBytes (bs : List Bool) : bs <+: (bitsToBytes bs).flatMap byteBits :=
  prefix_flatMap_byteBits_packBytes (by rw [ceil8]; omega)

-- ## The encoding of an instruction

/-- An instruction that stands for a string is what the string is read as. -/
theorem codeInstr_of_codeRefOf {i : Instr} {r : CodeRef} (h : codeRefOf i = some r) : codeInstr r = some i := by
  cases i <;> cases h <;> rfl

theorem encodeBits_of_codeRefOf {i : Instr} {r : CodeRef} (h : codeRefOf i = some r) :
    encodeBits i = some r.code.bits := by
  rw [encodeBits, h]
  rfl

theorem encode_of_codeRefOf {i : Instr} {r : CodeRef} (h : codeRefOf i = some r) :
    encode i = some (bitsToBytes r.code.bits) := by
  rw [encode, encodeBits_of_codeRefOf h]

theorem encode_of_codeRefOf_eq_none {i : Instr} (h : codeRefOf i = none) :
    encode i = (encodeCmd i).map fun v => [v] := by
  rw [encode, encodeBits, h]
  rfl

/-- The bytes of a string, in a state that tries it, are read as its instruction whatever follows. -/
theorem decode_bitsToBytes_append {st : DecState} {r : CodeRef} {i : Instr} (hi : codeInstr r = some i)
    (hlegal : r.legalIn st = true) (more : List Byte) :
    decode st (bitsToBytes r.code.bits ++ more) = .ok (i, r.code.len) := by
  obtain ⟨pad, hpad⟩ := prefix_flatMap_byteBits_bitsToBytes r.code.bits
  rw [decode, List.flatMap_append, ← hpad, List.append_assoc, decodeBits_bits_append hi hlegal]

/-- The two commands and their values of CMD (30_encoding.md R60). -/
theorem encodeCmd_eq_some {i : Instr} {v : Byte} (h : encodeCmd i = some v) :
    (i = .encodeRow ∧ v = 0) ∨ (i = .decodeRow ∧ v = 1) := by
  unfold encodeCmd at h
  split at h
  next hi => exact .inl ⟨hi, (Option.some.inj h).symm⟩
  next =>
    split at h
    next hi => exact .inr ⟨hi, (Option.some.inj h).symm⟩
    next => cases h

theorem encodeCmd_eq_none {i : Instr} (he : i ≠ .encodeRow) (hd : i ≠ .decodeRow) : encodeCmd i = none := by
  rw [encodeCmd, if_neg he, if_neg hd]

/-- Bit 0 of a value written to CMD alone selects the command (10_state.md R23). -/
theorem decodeCmd_add_two_mul (v high : Nat) : decodeCmd (v + 2 * high) = decodeCmd v := by
  rw [decodeCmd, decodeCmd, Nat.add_mul_mod_self_left]

end Sys2Proof
end

section
/-! SUPPORT. DECODE_ROW behind a string that the state does not match: the bits that follow are accumulated up to
FormatError or the end of the input (44_decoder.md R111, R115). -/

namespace Sys2Proof.Machine

/-- Whatever bits come next, the accumulated ones do not become a string. -/
def NeverString (s : State) : Prop :=
  ∀ more : List Bool, more ≠ [] → s.curLen + more.length ≤ 13 →
    stringAt s.decState (more.foldl shiftBit s.curVal) (s.curLen + more.length) = none

theorem NeverString.shiftIn {s : State} (h : NeverString s) (b : Bool) : NeverString (shiftIn b (trAdvance 1 s)) := by
  intro more hmore hlen
  have hlen' : s.curLen + 1 + more.length = s.curLen + (b :: more).length := by rw [List.length_cons]; omega
  have hlen13 : s.curLen + 1 + more.length ≤ 13 := hlen
  show stringAt s.decState ((b :: more).foldl shiftBit s.curVal) (s.curLen + 1 + more.length) = none
  rw [hlen']
  exact h _ (List.cons_ne_nil _ _) (by omega)

/-- DEC.BIT within 13 bits only accumulates. -/
theorem NeverString.decBit_goes {s : State} (h : NeverString s) {b : Bool} (hlen : s.curLen + 1 ≤ 13) :
    decBit b (trAdvance 1 s) = .goes (Machine.shiftIn b (trAdvance 1 s)) := by
  have hnone := h [b] (List.cons_ne_nil _ _) hlen
  exact decBit_of_instrAt_eq_none hlen (Option.bind_eq_none_iff.2 fun r hr => nomatch hnone.symm.trans hr)

/-- The fourteenth bit raises FormatError just behind it (60_exceptions.md R129). -/
theorem decBit_fourteenth {s : State} (hlen : s.curLen = 13) (b : Bool) :
    decBit b (trAdvance 1 s) = .ends (raiseException .formatError .decodeRow (s.trPos + 1) (trAdvance 1 s)) := by
  have hgt : (shiftIn b (trAdvance 1 s)).curLen > Config.maxCodeLen := by
    simp [hlen, Config.maxCodeLen]
  rw [decBit, afterShift, if_pos hgt]
  rfl

theorem raiseException_withAcc (x : Exc) (op : Operation) (p : Nat) (v : BitVec 14) (l : Nat) (s : State) :
    raiseException x op p (withAcc v l s) = raiseException x op p s := by
  cases x <;> cases op <;> rfl

/-- With the rest of fourteen bits in the input, the loop ends in FormatError just behind them. -/
theorem NeverString.readOn_ends {k : Nat} {s : State} (h : NeverString s) (hk : s.curLen + k = 13)
    (hroom : s.trPos + (k + 1) ≤ s.trLim) :
    readOn (k + 1) s =
      .ends (raiseException .formatError .decodeRow (s.trPos + (k + 1)) (trAdvance (k + 1) s)) := by
  induction k generalizing s with
  | zero => rw [readOn_succ (by omega), decBit_fourteenth hk]; rfl
  | succ k ih =>
    generalize hb : codeBit s s.trPos = b
    have hnext := ih (h.shiftIn b) (by rw [shiftIn_curLen, trAdvance_curLen]; omega)
      (by rw [shiftIn_trPos, trAdvance_trPos, shiftIn_trLim, trAdvance_trLim]; omega)
    rw [← raiseException_withAcc _ _ _ 0 0, withAcc_trAdvance_shiftIn, raiseException_withAcc, shiftIn_trPos,
      trAdvance_trPos, Nat.add_assoc, Nat.add_comm 1] at hnext
    rw [readOn_succ (by omega), hb, h.decBit_goes (by omega), goOn_goes_of_curLen_ne_zero (Nat.succ_ne_zero _)]
    exact hnext

/-- With fewer bits in the input, the loop accumulates them all. -/
theorem NeverString.readOn_goes {n k : Nat} {s : State} (h : NeverString s) (hn : s.curLen + n ≤ 13) (hnk : n ≤ k)
    (hend : s.trPos + n = s.trLim) : ∃ v, readOn k s = .goes (withAcc v (s.curLen + n) (trAdvance n s)) := by
  induction n generalizing k s with
  | zero => exact ⟨s.curVal, by rw [readOn_of_exhausted (by omega)]; rfl⟩
  | succ n ih =>
    obtain ⟨k, rfl⟩ := Nat.exists_eq_add_one_of_ne_zero (by omega : k ≠ 0)
    generalize hb : codeBit s s.trPos = b
    obtain ⟨v, hnext⟩ := ih (k := k) (h.shiftIn b) (by rw [shiftIn_curLen, trAdvance_curLen]; omega) (by omega)
      (by rw [shiftIn_trPos, trAdvance_trPos, shiftIn_trLim, trAdvance_trLim]; omega)
    rw [withAcc_trAdvance_shiftIn, shiftIn_curLen, trAdvance_curLen, Nat.add_assoc, Nat.add_comm 1] at hnext
    refine ⟨v, ?_⟩
    rw [readOn_succ (by omega), hb, h.decBit_goes (by omega), goOn_goes_of_curLen_ne_zero (Nat.succ_ne_zero _)]
    exact hnext

/-- The accumulator holds the bits of a reserved prefix. -/
theorem foldl_shiftBit_reserved (p : ReservedPrefix) :
    p.code.bits.foldl shiftBit 0 = p.code.value.setWidth 14 := by
  cases p <;> decide

/-- Behind a reserved prefix no bits make a string again: no string begins with one (30_encoding.md R58). -/
theorem neverString_reserved (p : ReservedPrefix) (s : State) :
    NeverString (withAcc (p.code.value.setWidth 14) p.code.len s) := by
  intro more hmore hlen
  have hbits : p.code.len + more.length = (p.code.bits ++ more).length := by
    rw [List.length_append, Code.length_bits]
  have hlen13 : p.code.len + more.length ≤ 13 := hlen
  show stringAt s.decState (more.foldl shiftBit (p.code.value.setWidth 14)) (p.code.len + more.length) = none
  rw [← foldl_shiftBit_reserved, ← List.foldl_append, hbits]
  exact stringAt_bits_append_eq_none (codeInstr_reserved_isSome p) rfl hmore (hbits ▸ hlen13)

/-- A reserved prefix executed at a boundary: the loop goes on from its accumulated bits up to the fourteenth bit. -/
theorem exec_reserved {i : Instr} {p : ReservedPrefix} {s : State} (hi : codeRefOf i = some (.reserved p))
    (hempty : atBoundary s = true) (hroom : s.trPos + p.code.len ≤ s.trLim) {m : Nat} (hm : p.code.len + m = 14) :
    exec i s =
      .next (readOn m (withAcc (p.code.value.setWidth 14) p.code.len (trAdvance p.code.len s))).state := by
  have hne : (withAcc (p.code.value.setWidth 14) p.code.len (trAdvance p.code.len s)).curLen ≠ 0 :=
    (ReservedPrefix.len_bounds p).1.ne'
  rw [exec_eq_takeString hi, takeString_reserved p hempty hroom hm, goOn_goes_of_curLen_ne_zero hne]

theorem trAdvance_trAdvance (m n : Nat) (s : State) : trAdvance m (trAdvance n s) = trAdvance (n + m) s := by
  simp only [trAdvance, Nat.add_assoc]

theorem trAdvance_withAcc (v : BitVec 14) (l n : Nat) (s : State) :
    trAdvance n (withAcc v l s) = withAcc v l (trAdvance n s) := rfl

theorem withAcc_withAcc (v v' : BitVec 14) (l l' : Nat) (s : State) : withAcc v l (withAcc v' l' s) = withAcc v l s := rfl

/-- With fourteen bits left, a reserved prefix ends in FormatError behind the fourteenth (60_exceptions.md R129). -/
theorem exec_reserved_of_fourteen {i : Instr} {p : ReservedPrefix} {s : State} (hi : codeRefOf i = some (.reserved p))
    (hempty : atBoundary s = true) (hroom : s.trPos + 14 ≤ s.trLim) :
    exec i s = .next (raiseException .formatError .decodeRow (s.trPos + 14) (trAdvance 14 s)) := by
  obtain ⟨-, hle⟩ := ReservedPrefix.len_bounds p
  obtain ⟨k, hk⟩ := Nat.exists_eq_add_of_le hle
  have hread := (neverString_reserved p (trAdvance p.code.len s)).readOn_ends (k := k) hk.symm
    (show s.trPos + p.code.len + (k + 1) ≤ s.trLim by omega)
  have h14 : p.code.len + (k + 1) = 14 := by omega
  have hpos : (withAcc (p.code.value.setWidth 14) p.code.len (trAdvance p.code.len s)).trPos + (k + 1) = s.trPos + 14 :=
    (Nat.add_assoc s.trPos p.code.len (k + 1)).trans (congrArg (s.trPos + ·) h14)
  rw [exec_reserved hi hempty (by omega) h14, hread, hpos, trAdvance_withAcc, raiseException_withAcc,
    trAdvance_trAdvance, h14]
  rfl

/-- With fewer bits left, a reserved prefix takes the rest of the input (44_decoder.md R115). -/
theorem exec_reserved_of_input_ends {i : Instr} {p : ReservedPrefix} {s : State} {n : Nat}
    (hi : codeRefOf i = some (.reserved p)) (hempty : atBoundary s = true) (hend : s.trPos + n = s.trLim)
    (hlen : p.code.len ≤ n) (hn : n ≤ 13) : ∃ v, exec i s = .next (withAcc v n (trAdvance n s)) := by
  obtain ⟨m, rfl⟩ := Nat.exists_eq_add_of_le hlen
  obtain ⟨k, hk⟩ := Nat.exists_eq_add_of_le (show p.code.len + m ≤ 14 by omega)
  obtain ⟨v, hread⟩ := (neverString_reserved p (trAdvance p.code.len s)).readOn_goes (n := m) (k := m + k) hn (by omega)
    (show s.trPos + p.code.len + m = s.trLim by omega)
  refine ⟨v, ?_⟩
  rw [exec_reserved hi hempty (by omega) (hk.trans (Nat.add_assoc ..)).symm, hread, trAdvance_withAcc, withAcc_withAcc,
    trAdvance_trAdvance]
  rfl

end Sys2Proof.Machine
end

section
/-! PROOFS. The statements of 30_encoding.md. -/

namespace Sys2Proof.Machine

/-- Settles O2: the strings of a colour are a prefix code, the bytes of a string begin with its bits, and CMD looks at
bit 0 alone. -/
theorem encodedInstructionsDecodeToThemselves : Obligations.EncodedInstructionsDecodeToThemselves := by
  refine ⟨fun i r href => ?_, fun i v hv => ?_, fun i hnone henc hdec => ?_⟩
  · have hi := codeInstr_of_codeRefOf href
    exact ⟨_, _, encodeBits_of_codeRefOf href, encode_of_codeRefOf href, Code.length_bits _, fun st hlegal =>
      ⟨decodeBits_bits_append hi hlegal, decode_bitsToBytes_append hi hlegal⟩⟩
  · have hencode : codeRefOf i = none → encode i = some [v] := fun h => by
      rw [encode_of_codeRefOf_eq_none h, hv, Option.map_some]
    rcases encodeCmd_eq_some hv with ⟨rfl, rfl⟩ | ⟨rfl, rfl⟩
    · exact ⟨.inl rfl, hencode rfl, decodeCmd_add_two_mul 0⟩
    · exact ⟨.inr rfl, hencode rfl, decodeCmd_add_two_mul 1⟩
  · rw [encode_of_codeRefOf_eq_none hnone, encodeCmd_eq_none henc hdec, Option.map_none]

/-- Settles O3: the decoder's tree has no leaf without a string, and no string of a colour is a prefix of another. -/
theorem everyFourteenBitsBeginWithExactlyOneString : Obligations.EveryFourteenBitsBeginWithExactlyOneString := by
  intro c bs hbs
  obtain ⟨i, n, hread⟩ := exists_decodeBits_expect c (bs := bs) (by omega)
  obtain ⟨r, hi, hlegal, rfl, hprefix⟩ := decodeBits_sound hread
  have hsome : (codeInstr r).isSome = true := by rw [hi]; rfl
  exact ⟨r, ⟨hsome, hlegal, hprefix⟩,
    fun r' hsome' hlegal' hprefix' => string_unique hsome hsome' hlegal hlegal' hprefix hprefix', i, hi, hread⟩

/-- Settles O4: a makeup code is a string of the colour that a MakeupSeen state does not try, and no string that the
state tries is a prefix of it or goes on from it. -/
theorem secondMakeupCodeIsNeverMatched : Obligations.SecondMakeupCodeIsNeverMatched := by
  intro c q k more hk
  have hq : isQuantum q = true := by
    by_contra hq
    simp [lutMakeup?, hq] at hk
  obtain ⟨j, hj, rfl⟩ := (isQuantum_iff q).1 hq
  have hcode : (CodeRef.makeup c (64 * (j + 1))).code = k := by rw [CodeRef.code, makeupCode, hk, Option.getD_some]
  have hlegal : (CodeRef.makeup c (64 * (j + 1))).legalIn (.expect (DecState.makeupSeen c).color) = true := by
    cases c <;> rfl
  have hnot : ¬ (CodeRef.makeup c (64 * (j + 1))).legalIn (.makeupSeen c) = true := by
    cases c <;> exact Bool.false_ne_true
  rw [decodeBits_of_not_legalIn (codeInstr_makeup_isSome hj) hlegal hnot (hcode ▸ List.prefix_append k.bits more),
    List.length_append, Code.length_bits]

/-- Settles O30: no bits behind a reserved prefix are a string, so the loop takes the rest of fourteen bits, or of the
input. -/
theorem reservedPrefixEndsInFormatError : Obligations.ReservedPrefixEndsInFormatError := by
  intro i p s hi hval hlen
  have hempty := (atBoundary_iff s).2 ⟨hlen, hval⟩
  refine ⟨fun hroom => ?_, fun hroom hend => ?_⟩
  · refine ⟨_, exec_reserved_of_fourteen hi hempty hroom, ?_, fun a => rfl⟩
    rw [← withErr_withDone s.status]
    rfl
  · obtain ⟨n, hn⟩ := Nat.exists_eq_add_of_le (show s.trPos ≤ s.trLim by omega)
    obtain ⟨v, hexec⟩ := exec_reserved_of_input_ends hi hempty hn.symm (by omega) (by omega)
    refine ⟨_, hexec, ?_⟩
    simp only [withAcc, trAdvance, State.mk.injEq, true_and, and_true]
    omega

/-- Settles O1: each word is written out and read. -/
theorem tableWordsReadAsTheirInstructions : Obligations.TableWordsReadAsTheirInstructions := by
  unfold Obligations.TableWordsReadAsTheirInstructions
  decide

end Sys2Proof.Machine
end

section
/-! SUPPORT. The lookups of the Code Table as instructions, and the table they read: which keys it has, and that an
accumulated pair is one entry of it at most (40_lut_rom.md). -/

namespace Sys2Proof

-- ## The entries of the table

/-- A key of LUT.TERM has its code (40_lut_rom.md R64). -/
theorem lutTerm?_of_lt (c : Color) {n : Nat} (h : n < 64) : lutTerm? c n = some (termCode c n) := by
  have hn : n < (termTable c).length := (length_termTable c).symm ▸ h
  rw [termCode, lutTerm?, List.getElem?_eq_getElem hn, Option.getD_some]

theorem lutTerm?_eq_none {c : Color} {n : Nat} (h : 64 ≤ n) : lutTerm? c n = none :=
  List.getElem?_eq_none ((length_termTable c).symm ▸ h)

theorem lt_of_lutTerm? {c : Color} {n : Nat} {k : Code} (h : lutTerm? c n = some k) : n < 64 :=
  length_termTable c ▸ (List.getElem?_eq_some_iff.1 h).1

theorem isQuantum_iff_bounds (q : Nat) : isQuantum q = true ↔ q % 64 = 0 ∧ 64 ≤ q ∧ q ≤ 2560 := by
  simp only [isQuantum, Bool.and_eq_true, beq_iff_eq, decide_eq_true_eq, and_assoc]
  rfl

/-- The makeup code of a quantum stands in the table at the quantum's number, counted from 0. -/
theorem lutMakeup?_eq_some_iff {c : Color} {q : Nat} {k : Code} :
    lutMakeup? c q = some k ↔ ∃ j, (makeupTable c)[j]? = some k ∧ 64 * (j + 1) = q := by
  constructor
  · intro h
    have hq : isQuantum q = true := by
      by_contra hq
      simp [lutMakeup?, hq] at h
    obtain ⟨j, -, rfl⟩ := (isQuantum_iff q).1 hq
    rw [lutMakeup?, if_pos hq, quantum_index] at h
    exact ⟨j, h, rfl⟩
  · rintro ⟨j, hj, rfl⟩
    have hj40 : j < 40 := length_makeupTable c ▸ (List.getElem?_eq_some_iff.1 hj).1
    rw [lutMakeup?, if_pos ((isQuantum_iff _).2 ⟨j, hj40, rfl⟩), quantum_index, hj]

/-- A key of LUT.MAKEUP has its code (40_lut_rom.md R65). -/
theorem lutMakeup?_of_isQuantum (c : Color) {q : Nat} (h : isQuantum q = true) :
    lutMakeup? c q = some (makeupCode c q) := by
  obtain ⟨j, hj, rfl⟩ := (isQuantum_iff q).1 h
  have hlen : j < (makeupTable c).length := (length_makeupTable c).symm ▸ hj
  have hk := lutMakeup?_eq_some_iff.2 ⟨j, List.getElem?_eq_getElem hlen, rfl⟩
  rw [makeupCode, hk, Option.getD_some]

theorem lutMakeup?_isSome_iff {c : Color} {q : Nat} : (lutMakeup? c q).isSome = true ↔ isQuantum q = true := by
  constructor
  · intro h
    by_contra hq
    simp [lutMakeup?, hq] at h
  · intro h
    rw [lutMakeup?_of_isQuantum c h, Option.isSome_some]

/-- The extended makeup codes are those of both colours (30_encoding.md R53). -/
theorem lutMakeup?_other {c : Color} {q : Nat} (h : 1792 ≤ q) : lutMakeup? c.other q = lutMakeup? c q := by
  have hshort : ∀ short : List Code, short.length = 27 →
      (short ++ makeupExtended)[q / Config.quantum - 1]? = makeupExtended[q / Config.quantum - 1 - 27]? := by
    intro short hlen
    rw [List.getElem?_append_right (by simp only [hlen, Config.quantum]; omega), hlen]
  have hwhite := hshort whiteMakeupShort rfl
  have hblack := hshort blackMakeupShort rfl
  cases c <;> simp only [lutMakeup?, Color.other, makeupTable, hwhite, hblack]

-- ## The largest quantum not above a number (40_lut_rom.md R66)

theorem maxqLe_eq (n : Nat) : maxqLe n = min 2560 (64 * (n / 64)) := rfl

theorem isQuantum_maxqLe {n : Nat} (h : 64 ≤ n) : isQuantum (maxqLe n) = true := by
  rw [isQuantum_iff_bounds, maxqLe_eq]
  omega

theorem maxqLe_le (n : Nat) : maxqLe n ≤ n := by
  rw [maxqLe_eq]
  omega

theorem le_maxqLe {n q : Nat} (hq : isQuantum q = true) (h : q ≤ n) : q ≤ maxqLe n := by
  obtain ⟨j, hj, rfl⟩ := (isQuantum_iff q).1 hq
  rw [maxqLe_eq]
  omega

-- ## The lengths and values of the codes

theorem len_whiteTermTable : ∀ k ∈ termTable .white, 4 ≤ k.len ∧ k.len ≤ 8 := by decide

theorem len_blackTermTable : ∀ k ∈ termTable .black, 2 ≤ k.len ∧ k.len ≤ 12 := by decide

theorem len_whiteMakeupTable : ∀ k ∈ makeupTable .white, k.len ∈ [5, 6, 7, 8, 9, 11, 12] := by decide

theorem len_blackMakeupTable : ∀ k ∈ makeupTable .black, k.len ∈ [10, 11, 12, 13] := by decide

/-- The terminating codes of both colours have from 2 to 12 bits. -/
theorem termCode_len_bounds (c : Color) {n : Nat} (h : n < 64) : 2 ≤ (termCode c n).len ∧ (termCode c n).len ≤ 12 := by
  have hmem : termCode c n ∈ termTable c := List.mem_of_getElem? (lutTerm?_of_lt c h)
  cases c with
  | white =>
    have hlen := len_whiteTermTable _ hmem
    omega
  | black => exact len_blackTermTable _ hmem

/-- No terminating code of a colour stands twice in its table. -/
theorem nodup_termTable (c : Color) : (termTable c).Nodup := by cases c <;> decide

/-- No makeup code of a colour stands twice in its table. -/
theorem nodup_makeupTable (c : Color) : (makeupTable c).Nodup := by cases c <;> decide

-- ## The code that an accumulated pair is

/-- An accumulated pair is one code at most: 14 bits hold the 13 of a code. -/
theorem Code.eq_of_matchesAcc {k k' : Code} {v : BitVec 14} {l : Nat} (h : k.matchesAcc v l = true)
    (h' : k'.matchesAcc v l = true) : k = k' := by
  obtain ⟨hlen, hval⟩ := (k.matchesAcc_iff v l).1 h
  obtain ⟨hlen', hval'⟩ := (k'.matchesAcc_iff v l).1 h'
  have hvalue : k.value = k'.value := by
    have hwide := hval.trans hval'.symm
    bv_omega
  exact congrArg₂ Code.mk hvalue (hlen.trans hlen'.symm)

/-- In a table that holds no code twice, the place found for an accumulated pair is the place of its code. -/
theorem findIdx?_matchesAcc_iff {ks : List Code} (hks : ks.Nodup) {v : BitVec 14} {l j : Nat} :
    ks.findIdx? (fun k => k.matchesAcc v l) = some j ↔ ∃ k, ks[j]? = some k ∧ k.matchesAcc v l = true := by
  constructor
  · intro h
    obtain ⟨hj, hmatch, -⟩ := List.findIdx?_eq_some_iff_getElem.1 h
    exact ⟨ks[j], List.getElem?_eq_getElem hj, hmatch⟩
  · rintro ⟨k, hk, hmatch⟩
    obtain ⟨hj, rfl⟩ := List.getElem?_eq_some_iff.1 hk
    refine List.findIdx?_eq_some_iff_getElem.2 ⟨hj, hmatch, fun i hij hi => ?_⟩
    have hsame : i = j := hks.getElem_inj_iff.1 (Code.eq_of_matchesAcc hi hmatch)
    omega

/-- No place is found for a length that no code of the table has. -/
theorem findIdx?_matchesAcc_eq_none {ks : List Code} {v : BitVec 14} {l : Nat} (h : ∀ k ∈ ks, k.len ≠ l) :
    ks.findIdx? (fun k => k.matchesAcc v l) = none := by
  refine List.findIdx?_eq_none_iff.2 fun k hk => Bool.eq_false_iff.2 fun hmatch => ?_
  exact h k hk ((k.matchesAcc_iff v l).1 hmatch).1

/-- MATCH_TERM finds the run length whose code the accumulated pair is (40_lut_rom.md R69). -/
theorem matchTerm_eq_some_iff {c : Color} {v : BitVec 14} {l n : Nat} :
    matchTerm c v l = some n ↔ ∃ k, lutTerm? c n = some k ∧ k.matchesAcc v l = true :=
  findIdx?_matchesAcc_iff (nodup_termTable c)

theorem matchTerm_eq_none {c : Color} {v : BitVec 14} {l : Nat} (h : ∀ k ∈ termTable c, k.len ≠ l) :
    matchTerm c v l = none :=
  findIdx?_matchesAcc_eq_none h

/-- MATCH_MAKEUP finds the quantum whose code the accumulated pair is (40_lut_rom.md R68). -/
theorem matchMakeup_eq_some_iff {c : Color} {v : BitVec 14} {l q : Nat} :
    matchMakeup c v l = some q ↔ ∃ k, lutMakeup? c q = some k ∧ k.matchesAcc v l = true := by
  calc matchMakeup c v l = some q
    _ ↔ ∃ j, (makeupTable c).findIdx? (fun k => k.matchesAcc v l) = some j ∧ 64 * (j + 1) = q :=
      Option.map_eq_some_iff
    _ ↔ ∃ j, (∃ k, (makeupTable c)[j]? = some k ∧ k.matchesAcc v l = true) ∧ 64 * (j + 1) = q := by
      simp only [findIdx?_matchesAcc_iff (nodup_makeupTable c)]
    _ ↔ ∃ k, lutMakeup? c q = some k ∧ k.matchesAcc v l = true := by
      simp only [lutMakeup?_eq_some_iff]
      tauto

theorem matchMakeup_eq_none {c : Color} {v : BitVec 14} {l : Nat} (h : ∀ k ∈ makeupTable c, k.len ≠ l) :
    matchMakeup c v l = none := by
  rw [matchMakeup, findIdx?_matchesAcc_eq_none h, Option.map_none]

/-- EOL is eleven zeros and a one (40_lut_rom.md R67). -/
theorem isEol_iff (v : BitVec 14) (l : Nat) : isEol v l = true ↔ l = 12 ∧ v = 1 := by
  rw [isEol, Code.matchesAcc_iff, eq_comm (a := eolCode.len), eq_comm (b := v)]
  rfl

end Sys2Proof

namespace Sys2Proof.Machine

-- ## The lookups as instructions

theorem exec_lutTerm (c : Color) (n : Nat) (s : State) : exec (.lutTerm c n) s = giveCode (lutTerm? c n) s := rfl

theorem exec_lutMakeup (c : Color) (q : Nat) (s : State) : exec (.lutMakeup c q) s = giveCode (lutMakeup? c q) s := rfl

theorem giveCode_some (k : Code) (s : State) : giveCode (some k) s = .next { s with ret := .code k } := rfl

theorem giveCode_none (s : State) : giveCode none s = .refused .outsideDomain := rfl

theorem exec_lutMaxqLe {n : Nat} (h : 64 ≤ n) (s : State) :
    exec (.lutMaxqLe n) s = .next { s with ret := .number (maxqLe n) } := if_pos h

theorem exec_lutMaxqLe_refused {n : Nat} (h : n < 64) (s : State) :
    exec (.lutMaxqLe n) s = .refused .outsideDomain := if_neg (Nat.not_le.2 h)

theorem exec_lutIsEol (v : BitVec 14) (l : Nat) (s : State) :
    exec (.lutIsEol v l) s = .next { s with ret := .truth (isEol v l) } := rfl

theorem exec_lutMatchTerm (c : Color) (v : BitVec 14) (l : Nat) (s : State) :
    exec (.lutMatchTerm c v l) s = .next { s with ret := .match? (matchTerm c v l) } := rfl

theorem exec_lutMatchMakeup (c : Color) (v : BitVec 14) (l : Nat) (s : State) :
    exec (.lutMatchMakeup c v l) s = .next { s with ret := .match? (matchMakeup c v l) } := rfl

/-- A string that is read as an instruction is the string and the encoding of that instruction. -/
theorem exists_instr_of_codeInstr_isSome {r : CodeRef} (h : (codeInstr r).isSome = true) :
    ∃ i, codeRefOf i = some r ∧ encodeBits i = some r.code.bits := by
  obtain ⟨i, hi⟩ := Option.isSome_iff_exists.1 h
  have href := codeRefOf_codeInstr hi
  exact ⟨i, href, encodeBits_of_codeRefOf href⟩

end Sys2Proof.Machine
end

section
/-! PROOFS. The statements of 40_lut_rom.md. -/

namespace Sys2Proof.Machine

/-- Settles O7: `64 * (n div 64)` is the largest multiple of 64 not above `n`, and 2560 the largest quantum of all. -/
theorem lutMaxqLeReturnsTheLargestQuantum : Obligations.LutMaxqLeReturnsTheLargestQuantum := by
  refine ⟨fun n s hn => ⟨maxqLe n, maxqLe_eq n, exec_lutMaxqLe hn s, maxqLe_le n, fun c => ?_, fun c q hq hle => ?_⟩,
    fun n s hn => exec_lutMaxqLe_refused hn s⟩
  · exact lutMakeup?_isSome_iff.2 (isQuantum_maxqLe hn)
  · exact le_maxqLe (lutMakeup?_isSome_iff.1 hq) hle

/-- Settles O9: each table holds no code twice, so the one place that matches is the place looked up. -/
theorem lutMatchesInvertTheTable : Obligations.LutMatchesInvertTheTable := by
  constructor
  · refine fun c v l s => ⟨matchTerm c v l, exec_lutMatchTerm c v l s, fun n => ?_, ?_, ?_⟩
    · simp only [matchTerm_eq_some_iff, Code.matchesAcc_iff]
      refine ⟨?_, And.right⟩
      rintro ⟨k, hk, hacc⟩
      exact ⟨Nat.le_of_lt_succ (lt_of_lutTerm? hk), k, hk, hacc⟩
    · rintro rfl hl
      exact matchTerm_eq_none fun k hk hlen => hl (hlen ▸ len_whiteTermTable k hk)
    · rintro rfl hl
      exact matchTerm_eq_none fun k hk hlen => hl (hlen ▸ len_blackTermTable k hk)
  · refine fun c v l s => ⟨matchMakeup c v l, exec_lutMatchMakeup c v l s, fun q => ?_, ?_, ?_⟩
    · simp only [matchMakeup_eq_some_iff, Code.matchesAcc_iff]
      refine ⟨?_, And.right⟩
      rintro ⟨k, hk, hacc⟩
      have hq : isQuantum q = true := lutMakeup?_isSome_iff.1 (by rw [hk, Option.isSome_some])
      exact ⟨(isQuantum_iff_bounds q).1 hq, k, hk, hacc⟩
    · rintro rfl hl
      exact matchMakeup_eq_none fun k hk hlen => hl (hlen ▸ len_whiteMakeupTable k hk)
    · rintro rfl hl
      exact matchMakeup_eq_none fun k hk hlen => hl (hlen ▸ len_blackMakeupTable k hk)

/-- Settles O5: the table has a code and the stream an instruction for each run length up to 63, and none above. -/
theorem lutTermReturnsTheTerminatingCode : Obligations.LutTermReturnsTheTerminatingCode := by
  refine ⟨fun c n s hn => ?_, fun c n s hn => ?_, fun s => ⟨rfl, rfl, rfl, rfl⟩⟩
  · have hlt : n < 64 := Nat.lt_succ_of_le hn
    obtain ⟨i, href, hbits⟩ := exists_instr_of_codeInstr_isSome (codeInstr_term_isSome (c := c) hlt)
    obtain ⟨hlow, hhigh⟩ := termCode_len_bounds c hlt
    refine ⟨termCode c n, i, href, hbits, hlow, hhigh, ?_⟩
    rw [exec_lutTerm, lutTerm?_of_lt c hlt, giveCode_some]
  · rw [exec_lutTerm, lutTerm?_eq_none hn, giveCode_none]

/-- Settles O6: the table has a code and the stream an instruction for each quantum, and the tables of both colours end
in the same extended codes. -/
theorem lutMakeupReturnsTheMakeupCode : Obligations.LutMakeupReturnsTheMakeupCode := by
  refine ⟨fun c q s hmod hlow hhigh => ?_, fun c q s hq => ?_, fun s => ⟨rfl, rfl, rfl⟩⟩
  · have hq : isQuantum q = true := (isQuantum_iff_bounds q).2 ⟨hmod, hlow, hhigh⟩
    have hexec : exec (.lutMakeup c q) s = .next { s with ret := .code (makeupCode c q) } := by
      rw [exec_lutMakeup, lutMakeup?_of_isQuantum c hq, giveCode_some]
    have hinstr : (codeInstr (.makeup c q)).isSome = true := by
      obtain ⟨j, hj, rfl⟩ := (isQuantum_iff q).1 hq
      exact codeInstr_makeup_isSome hj
    obtain ⟨i, href, hbits⟩ := exists_instr_of_codeInstr_isSome hinstr
    refine ⟨makeupCode c q, i, href, hbits, hexec, fun hext => ?_⟩
    rw [exec_lutMakeup, lutMakeup?_other hext, ← exec_lutMakeup, hexec]
  · have hnone : lutMakeup? c q = none := by
      rw [← Option.not_isSome_iff_eq_none, lutMakeup?_isSome_iff, isQuantum_iff_bounds]
      omega
    rw [exec_lutMakeup, hnone, giveCode_none]

/-- Settles O8: the entry of EOL is the value 1 in 12 bits. -/
theorem lutIsEolHoldsForOneAndTwelveOnly : Obligations.LutIsEolHoldsForOneAndTwelveOnly :=
  fun v l s _ => ⟨isEol v l, isEol_iff v l, exec_lutIsEol v l s⟩

end Sys2Proof.Machine
end

section
/-! SUPPORT. The bit accessors: the bits of a number in the order of the stream, both ways, the pad bits of a byte, and
what each accessor comes to as an instruction (41_bit_accessors.md). -/

namespace Sys2Proof

theorem bitCountOk_iff (k : Nat) : bitCountOk k = true ↔ 1 ≤ k ∧ k ≤ 13 := by
  simp only [bitCountOk, Bool.and_eq_true, decide_eq_true_eq]
  rfl

/-- Place `j` of the `k` bits of a value, most significant first, is its bit `k - 1 - j` (41_bit_accessors.md R77). -/
theorem getD_bitsMsbFirst {k j : Nat} (v : BitVec 13) (hj : j < k) :
    (bitsMsbFirst k v).getD j false = v.getLsbD (k - 1 - j) := by
  induction k generalizing j with
  | zero => omega
  | succ k ih =>
    cases j with
    | zero => rfl
    | succ j =>
      rw [bitsMsbFirst, List.getD_cons_succ, ih (by omega)]
      congr 1
      omega

end Sys2Proof

namespace Sys2Proof.Machine

-- ## Bits read into a number (41_bit_accessors.md R74, R82)

/-- A bit read goes to the bottom of the number, and what was there moves up. -/
theorem testBit_two_mul_add_bitNat (v : Nat) (b : Bool) (i : Nat) :
    (2 * v + bitNat b).testBit i = if i = 0 then b else v.testBit (i - 1) := by
  have hbit : 2 * v + bitNat b = Nat.bit b v := by cases b <;> simp [bitNat, Nat.bit_val]
  rw [hbit]
  cases i with
  | zero => rw [Nat.testBit_bit_zero, if_pos rfl]
  | succ i => rw [Nat.testBit_bit_succ, if_neg (by omega), Nat.add_sub_cancel]

/-- The low `k` bits of the number are the bits read, the first most significant; what was read before is above them. -/
theorem testBit_gatherBits (bitAt : Nat → Bool) (pos k v i : Nat) :
    (gatherBits bitAt pos k v).testBit i = if i < k then bitAt (pos + (k - 1 - i)) else v.testBit (i - k) := by
  induction k generalizing pos v with
  | zero => rfl
  | succ k ih =>
    rw [gatherBits, ih, testBit_two_mul_add_bitNat]
    rcases Nat.lt_trichotomy i k with hlt | rfl | hgt
    · rw [if_pos hlt, if_pos (by omega)]
      congr 1
      omega
    · simp
    · rw [if_neg (by omega), if_neg (by omega), if_neg (by omega), Nat.sub_sub]

theorem gatherBits_lt (bitAt : Nat → Bool) (pos k : Nat) : gatherBits bitAt pos k 0 < 2 ^ k := by
  refine Nat.lt_pow_two_of_testBit _ fun i hi => ?_
  rw [testBit_gatherBits, if_neg (by omega), Nat.zero_testBit]

/-- The bit read at place `j` of `k` is bit `k - 1 - j` of the number. -/
theorem testBit_gatherBits_place (bitAt : Nat → Bool) (pos : Nat) {k j : Nat} (hj : j < k) :
    (gatherBits bitAt pos k 0).testBit (k - 1 - j) = bitAt (pos + j) := by
  rw [testBit_gatherBits, if_pos (by omega)]
  congr 1
  omega

/-- A number of at most `k` bits is what is read where its bits stand. -/
theorem gatherBits_eq {bitAt : Nat → Bool} {pos k n : Nat} (hn : n < 2 ^ k)
    (hbits : ∀ j, j < k → bitAt (pos + j) = n.testBit (k - 1 - j)) : gatherBits bitAt pos k 0 = n := by
  refine Nat.eq_of_testBit_eq fun i => ?_
  rw [testBit_gatherBits]
  by_cases hi : i < k
  · rw [if_pos hi, hbits _ (by omega)]
    congr 1
    omega
  · have hk : 2 ^ k ≤ 2 ^ i := Nat.pow_le_pow_right (by omega) (by omega)
    rw [if_neg hi, Nat.zero_testBit, Nat.testBit_lt_two_pow (hn.trans_le hk)]

-- ## The pad bits of a byte (41_bit_accessors.md R78, R86)

theorem add_padCount (p : Nat) : p + padCount p = 8 * ceil8 p := by
  unfold padCount ceil8
  omega

theorem padCount_of_aligned {p : Nat} (h : p % 8 = 0) : padCount p = 0 := by
  unfold padCount
  omega

-- ## The two readers

theorem exec_nrOpen {w : Nat} {s : State} (h : Config.within w s.cap.maxRowBits = true) :
    exec (.nrOpen w) s = .next { s with nrPos := 0, nrLim := w } := if_pos h

theorem exec_nrOpen_outside {w : Nat} {s : State} (h : Config.within w s.cap.maxRowBits = false) :
    exec (.nrOpen w) s = .next { s with
      nrPos := 0, nrLim := Config.upTo s.cap.maxRowBits (freeValue s), freeCount := s.freeCount + 1 } :=
  if_neg (by simp [h])

theorem exec_nrRead1 {s : State} (h : s.nrPos < s.nrLim) :
    exec .nrRead1 s = .next { s with nrPos := s.nrPos + 1, ret := .bit (pixBit s s.nrPos) } := if_pos h

theorem exec_nrRead1_refused {s : State} (h : s.nrLim ≤ s.nrPos) : exec .nrRead1 s = .refused .notEnabled :=
  if_neg (Nat.not_lt.2 h)

theorem exec_nrRead {k : Nat} {s : State} (hk : 1 ≤ k ∧ k ≤ 13) (h : s.nrPos + k ≤ s.nrLim) :
    exec (.nrRead k) s = .next { s with nrPos := s.nrPos + k, ret := .number (gatherBits (pixBit s) s.nrPos k 0) } :=
  (if_pos h).trans (if_pos ((bitCountOk_iff k).2 hk))

theorem exec_nrRead_outside {k : Nat} {s : State} (hk : ¬(1 ≤ k ∧ k ≤ 13)) (h : s.nrPos + k ≤ s.nrLim) :
    exec (.nrRead k) s = .next { s with
      nrPos := s.nrPos + k, freeCount := s.freeCount + 1, ret := .number (freeValue s % 2 ^ k) } :=
  (if_pos h).trans (if_neg (mt (bitCountOk_iff k).1 hk))

theorem exec_nrRead_refused {k : Nat} {s : State} (h : s.nrLim < s.nrPos + k) :
    exec (.nrRead k) s = .refused .notEnabled := if_neg (Nat.not_le.2 h)

theorem exec_nrEof (s : State) : exec .nrEof s = .next { s with ret := .truth (s.nrPos == s.nrLim) } := rfl

theorem exec_trOpen {m : Nat} {s : State} (h : Config.within m s.cap.maxCodeBytes = true) :
    exec (.trOpen m) s = .next { s with trPos := 0, trLim := 8 * m } := if_pos h

theorem exec_trOpen_outside {m : Nat} {s : State} (h : Config.within m s.cap.maxCodeBytes = false) :
    exec (.trOpen m) s = .next { s with
      trPos := 0, trLim := 8 * Config.upTo s.cap.maxCodeBytes (freeValue s), freeCount := s.freeCount + 1 } :=
  if_neg (by simp [h])

theorem exec_trRead1 {s : State} (h : s.trPos < s.trLim) :
    exec .trRead1 s = .next { s with trPos := s.trPos + 1, ret := .bit (codeBit s s.trPos) } := if_pos h

theorem exec_trRead1_refused {s : State} (h : s.trLim ≤ s.trPos) : exec .trRead1 s = .refused .notEnabled :=
  if_neg (Nat.not_lt.2 h)

theorem exec_trRead {k : Nat} {s : State} (hk : 1 ≤ k ∧ k ≤ 13) (h : s.trPos + k ≤ s.trLim) :
    exec (.trRead k) s = .next { s with trPos := s.trPos + k, ret := .number (gatherBits (codeBit s) s.trPos k 0) } :=
  (if_pos h).trans (if_pos ((bitCountOk_iff k).2 hk))

theorem exec_trRead_outside {k : Nat} {s : State} (hk : ¬(1 ≤ k ∧ k ≤ 13)) (h : s.trPos + k ≤ s.trLim) :
    exec (.trRead k) s = .next { s with
      trPos := s.trPos + k, freeCount := s.freeCount + 1, ret := .number (freeValue s % 2 ^ k) } :=
  (if_pos h).trans (if_neg (mt (bitCountOk_iff k).1 hk))

theorem exec_trRead_refused {k : Nat} {s : State} (h : s.trLim < s.trPos + k) :
    exec (.trRead k) s = .refused .notEnabled := if_neg (Nat.not_le.2 h)

theorem exec_trEof (s : State) : exec .trEof s = .next { s with ret := .truth (s.trPos == s.trLim) } := rfl

-- ## The two writers

theorem twWriteBits_of_room {bs : List Bool} {s : State} (h : twRoom bs.length s = true) :
    twWriteBits bs s = .next (twPutBits bs s) := if_pos h

theorem twWriteBits_of_no_room {bs : List Bool} {s : State} (h : twRoom bs.length s = false) :
    twWriteBits bs s = .fault .noSuchAddress := if_neg (by simp [h])

theorem exec_twWrite {v : BitVec 13} {k : Nat} (hk : 1 ≤ k ∧ k ≤ 13) (hv : v.toNat < 2 ^ k) (s : State) :
    exec (.twWrite v k) s = twWriteBits (bitsMsbFirst k v) s :=
  if_pos (by rw [(bitCountOk_iff k).2 hk, Bool.true_and, decide_eq_true hv])

theorem exec_twWrite_outside {v : BitVec 13} {k : Nat} (h : k = 0 ∨ 13 < k ∨ 2 ^ k ≤ v.toNat) (s : State) :
    exec (.twWrite v k) s = twWriteBits (numberBits k (freeValue s)) (tookFree s) := by
  refine if_neg fun hok => ?_
  rw [Bool.and_eq_true, bitCountOk_iff, decide_eq_true_eq] at hok
  omega

theorem exec_twFlush (s : State) :
    exec .twFlush s = twWriteBits (List.replicate (padCount s.twPos) false) s := rfl

theorem exec_twClose {s : State} (h : s.twPos % 8 = 0) :
    exec .twClose s = .next { s with ret := .number (s.twPos / 8) } := if_pos h

theorem exec_twClose_refused {s : State} (h : s.twPos % 8 ≠ 0) : exec .twClose s = .refused .notFlushed := if_neg h

/-- A value written stands in CODE with its most significant bit first, all else is as before
(41_bit_accessors.md R77). -/
theorem codeBit_twPutBits_bitsMsbFirst (v : BitVec 13) (k : Nat) (s : State) (p : Nat) :
    codeBit (twPutBits (bitsMsbFirst k v) s) p =
      if s.twPos ≤ p ∧ p < s.twPos + k then v.getLsbD (k - 1 - (p - s.twPos)) else codeBit s p := by
  rw [codeBit_twPutBits, length_bitsMsbFirst]
  split_ifs with hp
  · exact getD_bitsMsbFirst v (by omega)
  · rfl

/-- Where a value was written, it is read (41_bit_accessors.md R87). -/
theorem gatherBits_twPutBits {v : BitVec 13} {k : Nat} (hv : v.toNat < 2 ^ k) (s : State) :
    gatherBits (codeBit (twPutBits (bitsMsbFirst k v) s)) s.twPos k 0 = v.toNat := by
  refine gatherBits_eq hv fun j hj => ?_
  rw [codeBit_twPutBits_bitsMsbFirst, if_pos (by omega), Nat.add_sub_cancel_left]
  rfl

theorem exec_nwWriteRun {n : Nat} {s : State} (h : nwFits n s = true) (c : Color) :
    exec (.nwWriteRun c n) s = .next (nwPut c n s) := by
  show Host.Outcome.next (nwWriteRun c n s).state = _
  rw [nwWriteRun, if_pos h, DecRun.state_goes]

theorem exec_nwClose (s : State) : exec .nwClose s = .next (giveBack (.number s.nwPos) (nwClose s)) := rfl

theorem Color.bit_eq_decide (c : Color) : c.bit = decide (c = .black) := by cases c <;> rfl

end Sys2Proof.Machine
end

section
/-! PROOFS. The statements of 41_bit_accessors.md. -/

namespace Sys2Proof.Machine

/-- Settles O12: each bit of the number is one of the bits read, counted from the other end. -/
theorem multiBitReadsAssembleMostSignificantFirst : Obligations.MultiBitReadsAssembleMostSignificantFirst := by
  refine ⟨fun k s h1 h13 hlim => ?_, fun k s h1 h13 hlim => ?_, fun k s _ _ => exec_nrRead_refused,
    fun k s _ _ => exec_trRead_refused⟩
  · exact ⟨_, exec_nrRead ⟨h1, h13⟩ hlim, gatherBits_lt _ _ _, fun j => testBit_gatherBits_place _ _⟩
  · exact ⟨_, exec_trRead ⟨h1, h13⟩ hlim, gatherBits_lt _ _ _, fun j => testBit_gatherBits_place _ _⟩

/-- Settles O13: the bits of the value, most significant first, are written one after the other at `tw_pos`. -/
theorem transmissionWriterWritesMostSignificantBitFirst :
    Obligations.TransmissionWriterWritesMostSignificantBitFirst := by
  refine ⟨fun s => rfl, fun v k s h1 h13 hv hroom => ?_, fun v k s h1 h13 hv hroom => ?_⟩
  · have hlen := length_bitsMsbFirst k v
    refine ⟨twPutBits (bitsMsbFirst k v) s, ?_, ?_, codeBit_twPutBits_bitsMsbFirst v k s⟩
    · rw [exec_twWrite ⟨h1, h13⟩ hv, twWriteBits_of_room (hlen.symm ▸ hroom)]
    · have heq := twPutBits_eq (bitsMsbFirst k v) s
      rwa [hlen] at heq
  · rw [exec_twWrite ⟨h1, h13⟩ hv, twWriteBits_of_no_room ((length_bitsMsbFirst k v).symm ▸ hroom)]

/-- Settles O14: the pad bits reach from `tw_pos` to the end of its byte, and there are none where a byte begins. -/
theorem flushPadsToAByteAndCloseCountsBytes : Obligations.FlushPadsToAByteAndCloseCountsBytes := by
  refine ⟨fun s hroom => ?_, fun s => exec_twClose, fun s => exec_twClose_refused⟩
  have hlen : (List.replicate (padCount s.twPos) false).length = padCount s.twPos := List.length_replicate
  refine ⟨twPutBits (List.replicate (padCount s.twPos) false) s, ?_, ?_, fun p => ?_, fun haligned => ?_⟩
  · rw [exec_twFlush, twWriteBits_of_room (hlen.symm ▸ hroom)]
  · have heq := twPutBits_eq (List.replicate (padCount s.twPos) false) s
    rwa [hlen, add_padCount] at heq
  · rw [codeBit_twPutBits, hlen, add_padCount]
    split_ifs
    · rw [List.getD_eq_getElem?_getD, List.getElem?_getD_replicate_default_eq]
    · rfl
  · rw [padCount_of_aligned haligned]
    rfl

/-- Settles O15: the reader takes the bits up in the order in which the writer has put them down. -/
theorem writtenCodeReadsBack : Obligations.WrittenCodeReadsBack := by
  intro v k lim s t h1 h13 hv _ hlim hwrite
  rw [exec_twWrite ⟨h1, h13⟩ hv] at hwrite
  obtain ⟨-, rfl⟩ := twWriteBits_eq_next hwrite
  rw [exec_trRead ⟨h1, h13⟩ hlim]
  have hread := gatherBits_twPutBits hv s
  simp only [Host.Outcome.next.injEq, State.mk.injEq, Ret.number.injEq, true_and, and_true]
  exact hread

/-- Settles O16: a run that fits is `n` pixels written one after the other at `nw_pos`. -/
theorem naturalWriterWritesARun : Obligations.NaturalWriterWritesARun := by
  refine ⟨fun s => rfl, fun c n s hfits => ?_⟩
  refine ⟨nwPut c n s, exec_nwWriteRun hfits c, nwPut_eq c n s, fun p => ?_, ?_⟩
  · rw [pixBit_nwPut, Color.bit_eq_decide]
  · rintro rfl
    rfl

/-- Settles O17: the pixels set to 0 reach from `nw_pos` to the end of its byte, and there are none where a byte
begins. -/
theorem naturalWriterClosesTheLastByteWithZeros : Obligations.NaturalWriterClosesTheLastByteWithZeros := by
  intro s
  refine ⟨giveBack (.number s.nwPos) (nwClose s), exec_nwClose s, ?_, fun p => ?_, fun haligned => ?_⟩
  · rw [nwClose, padPix_eq]
    rfl
  · have hpad := pixBit_padPix (padCount s.nwPos) s.nwPos s p
    rwa [add_padCount] at hpad
  · rw [nwClose, padCount_of_aligned haligned]
    rfl

/-- Settles O54: outside the ranges each operation takes its free value and then does what it does inside them. -/
theorem operandsOutsideTheirRangeStillRun : Obligations.OperandsOutsideTheirRangeStillRun := by
  refine ⟨fun w s h => ⟨_, exec_nrOpen_outside h, within_upTo _ _⟩,
    fun m s h => ⟨_, exec_trOpen_outside h, within_upTo _ _⟩, fun k s hk => ?_, fun v k s hk => ?_⟩
  · have hout : ¬(1 ≤ k ∧ k ≤ 13) := by omega
    have hfree : freeValue s % 2 ^ k < 2 ^ k := Nat.mod_lt _ (Nat.two_pow_pos k)
    exact ⟨fun h => ⟨_, hfree, exec_nrRead_outside hout h⟩, exec_nrRead_refused,
      fun h => ⟨_, hfree, exec_trRead_outside hout h⟩, exec_trRead_refused⟩
  · have hlen := length_numberBits k (freeValue s)
    refine ⟨fun hroom => ?_, fun hroom => ?_⟩
    · refine ⟨twPutBits (numberBits k (freeValue s)) (tookFree s), ?_, ?_, fun p hp => ?_⟩
      · rw [exec_twWrite_outside hk, twWriteBits_of_room (hlen.symm ▸ hroom)]
      · have heq := twPutBits_eq (numberBits k (freeValue s)) (tookFree s)
        rwa [hlen] at heq
      · rw [codeBit_twPutBits, hlen]
        exact if_neg hp
    · rw [exec_twWrite_outside hk, twWriteBits_of_no_room (hlen.symm ▸ hroom)]

/-- Settles O10: `PIXBIT` is the bit of PIX that the statement writes out. -/
theorem naturalReaderOpensReadsAndEnds : Obligations.NaturalReaderOpensReadsAndEnds := by
  refine ⟨fun w s => exec_nrOpen, fun s => exec_nrRead1, fun s h => exec_nrRead1_refused h.ge, fun s => ?_⟩
  exact ⟨s.nrPos == s.nrLim, beq_iff_eq, exec_nrEof s⟩

/-- Settles O11: `CODEBIT` is the bit of CODE that the statement writes out. -/
theorem transmissionReaderOpensReadsAndEnds : Obligations.TransmissionReaderOpensReadsAndEnds := by
  refine ⟨fun m s => exec_trOpen, fun s => exec_trRead1, fun s h => exec_trRead1_refused h.ge, fun s => ?_⟩
  exact ⟨s.trPos == s.trLim, beq_iff_eq, exec_trEof s⟩

end Sys2Proof.Machine
end

section
/-! SUPPORT. The scanner: what its instructions come to, and the runs of a row, maximal, alternating and covering it
(42_run_length_scanner.md). -/

namespace Sys2Proof

theorem colorOf_eq_iff (b : Bool) (c : Color) : colorOf b = c ↔ (b = true ↔ c = .black) := by
  cases b <;> cases c <;> decide

theorem colorOf_inj {b c : Bool} : colorOf b = colorOf c ↔ b = c := by
  cases b <;> cases c <;> decide

theorem Color.eq_other_iff_ne {c d : Color} : d = c.other ↔ d ≠ c := by
  cases c <;> cases d <;> decide

end Sys2Proof

namespace Sys2Proof.Machine

-- ## The scanner's instructions (42_run_length_scanner.md R88 to R90)

theorem flushRun_of_room {c : Color} {n : Nat} {s : State}
    (h : twRoom ((runCodes c n).flatMap Code.bits).length s = true) :
    flushRun c n s = .next (twPutBits ((runCodes c n).flatMap Code.bits) s) := twWriteBits_of_room h

theorem exec_encFlushRun (c : Color) (n : Nat) (s : State) : exec (.encFlushRun c n) s = flushRun c n s := rfl

/-- A pixel of the current colour is only counted. -/
theorem exec_scanPixel_same {b : Bool} {s : State} (h : colorOf b = s.curColor) :
    exec (.scanPixel b) s = .next (countPixel s) := if_pos h

/-- A pixel of the other colour ends the run, if it could be flushed, and is the first one of the next. -/
theorem exec_scanPixel_other {b : Bool} {s t : State} (h : colorOf b ≠ s.curColor)
    (hflush : flushRun s.curColor s.runCnt s = .next t) :
    exec (.scanPixel b) s = .next { t with curColor := s.curColor.other, runCnt := 1 } := by
  show scanPixel b s = _
  rw [scanPixel, if_neg h, hflush, Color.eq_other_iff_ne.2 h]
  rfl

theorem exec_scanEnd_zero (s : State) : exec (.scanEnd 0) s = .next s := rfl

theorem exec_scanEnd_of_pos {w : Nat} (h : 0 < w) (s : State) :
    exec (.scanEnd w) s = flushRun s.curColor s.runCnt s := if_neg h.ne'

-- ## The maximal runs of a row (42_run_length_scanner.md R92)

/-- A piece of a row split between unequal neighbours is one pixel, repeated. -/
theorem eq_replicate_of_mem_splitBy {row run : List Bool} (h : run ∈ row.splitBy (· == ·)) :
    ∃ n b, run = List.replicate (n + 1) b := by
  have hchain : run.IsChain (· = ·) := (List.isChain_of_mem_splitBy h).imp fun _ _ => eq_of_beq
  obtain ⟨b, l, rfl⟩ := List.exists_cons_of_ne_nil (List.ne_nil_of_mem_splitBy h)
  exact ⟨l.length, b, congrArg (b :: ·) (List.isChain_cons_eq_iff_eq_replicate.1 hchain)⟩

theorem sum_maximalRuns (row : List Bool) : ((maximalRuns row).map Prod.snd).sum = row.length := by
  calc ((maximalRuns row).map Prod.snd).sum
      = ((row.splitBy (· == ·)).map List.length).sum := by rw [maximalRuns, List.map_map]; rfl
    _ = row.length := by rw [← List.length_flatten, List.flatten_splitBy]

theorem pos_of_mem_maximalRuns {row : List Bool} {run : Color × Nat} (h : run ∈ maximalRuns row) : 0 < run.2 := by
  obtain ⟨piece, hpiece, rfl⟩ := List.mem_map.1 h
  exact List.length_pos_of_ne_nil (List.ne_nil_of_mem_splitBy hpiece)

/-- The first maximal run has the colour of the first pixel. -/
theorem maximalRuns_cons (b : Bool) (row : List Bool) :
    ∃ n rest, maximalRuns (b :: row) = (colorOf b, n + 1) :: rest := by
  obtain ⟨run, rest, hsplit⟩ := List.exists_cons_of_ne_nil
    (List.splitBy_ne_nil.2 (List.cons_ne_nil b row) : (b :: row).splitBy (· == ·) ≠ [])
  have hmem : run ∈ (b :: row).splitBy (· == ·) := hsplit ▸ List.mem_cons_self
  obtain ⟨n, c, rfl⟩ := eq_replicate_of_mem_splitBy hmem
  have hflat := List.flatten_splitBy (· == ·) (b :: row)
  rw [hsplit, List.flatten_cons, List.replicate_succ, List.cons_append] at hflat
  obtain ⟨rfl, -⟩ := List.cons.inj hflat
  rw [maximalRuns, hsplit, List.map_cons, List.length_replicate]
  exact ⟨n, _, rfl⟩

/-- Neighbouring runs are of different colours. -/
def Alternating (runs : List (Color × Nat)) : Prop := runs.IsChain fun run next => next.1 = run.1.other

theorem alternating_maximalRuns (row : List Bool) : Alternating (maximalRuns row) := by
  refine (List.isChain_map _).2 ((List.isChain_getLast_head_splitBy _ row).imp_of_mem_imp ?_)
  rintro run next hrun hnext ⟨_, _, hne⟩
  obtain ⟨m, b, rfl⟩ := eq_replicate_of_mem_splitBy hrun
  obtain ⟨n, c, rfl⟩ := eq_replicate_of_mem_splitBy hnext
  rw [List.getLast_replicate, List.head_replicate] at hne
  show colorOf c = (colorOf b).other
  exact Color.eq_other_iff_ne.2 (colorOf_inj.not.2 (ne_of_beq_false hne).symm)

/-- In an alternating list the runs of the first one's colour are those at the even places. -/
theorem Alternating.color_iff_even {runs : List (Color × Nat)} (h : Alternating runs) {c : Color}
    (hhead : ∀ run ∈ runs.head?, run.1 = c) {j : Nat} {run : Color × Nat} (hj : runs[j]? = some run) :
    run.1 = c ↔ j % 2 = 0 := by
  induction runs generalizing c j with
  | nil => cases hj
  | cons first rest ih =>
    obtain ⟨hnext, hrest⟩ := List.isChain_cons.1 h
    obtain rfl : first.1 = c := hhead first rfl
    cases j with
    | zero =>
      cases hj
      simp
    | succ j =>
      have hodd : run.1 ≠ first.1 ↔ j % 2 = 0 := Color.eq_other_iff_ne.symm.trans (ih hrest hnext hj)
      rw [← not_iff_not, ← ne_eq, hodd]
      omega

-- ## The runs that the scanner flushes (42_run_length_scanner.md R92)

theorem runsOf_nil : runsOf [] = [] := rfl

theorem runsOf_white (row : List Bool) : runsOf (false :: row) = maximalRuns (false :: row) := by
  obtain ⟨n, rest, hruns⟩ := maximalRuns_cons false row
  rw [runsOf, hruns]
  rfl

theorem runsOf_black (row : List Bool) : runsOf (true :: row) = (.white, 0) :: maximalRuns (true :: row) := by
  obtain ⟨n, rest, hruns⟩ := maximalRuns_cons true row
  rw [runsOf, hruns]
  rfl

theorem sum_runsOf (row : List Bool) : ((runsOf row).map Prod.snd).sum = row.length := by
  match row with
  | [] => rfl
  | false :: row => rw [runsOf_white, sum_maximalRuns]
  | true :: row => rw [runsOf_black, List.map_cons, List.sum_cons, sum_maximalRuns, Nat.zero_add]

theorem color_of_mem_head?_runsOf {row : List Bool} : ∀ run ∈ (runsOf row).head?, run.1 = .white := by
  match row with
  | [] => nofun
  | false :: row =>
    obtain ⟨n, rest, hruns⟩ := maximalRuns_cons false row
    rw [runsOf_white, hruns]
    rintro _ ⟨⟩
    rfl
  | true :: row =>
    rw [runsOf_black]
    rintro _ ⟨⟩
    rfl

theorem alternating_runsOf (row : List Bool) : Alternating (runsOf row) := by
  match row with
  | [] => exact List.isChain_nil
  | false :: row => exact runsOf_white row ▸ alternating_maximalRuns _
  | true :: row =>
    rw [runsOf_black]
    refine List.isChain_cons.2 ⟨?_, alternating_maximalRuns _⟩
    obtain ⟨n, rest, hruns⟩ := maximalRuns_cons true row
    rw [hruns]
    rintro _ ⟨⟩
    rfl

/-- Only the White run in front of a row that starts with Black is empty. -/
theorem runsOf_length_eq_zero_iff {row : List Bool} {j : Nat} {run : Color × Nat} (hj : (runsOf row)[j]? = some run) :
    run.2 = 0 ↔ j = 0 ∧ row.head? = some true := by
  match row, j with
  | [], _ => cases hj
  | false :: row, j =>
    rw [runsOf_white] at hj
    simp [(pos_of_mem_maximalRuns (List.mem_of_getElem? hj)).ne']
  | true :: row, 0 =>
    rw [runsOf_black] at hj
    cases hj
    simp
  | true :: row, j + 1 =>
    rw [runsOf_black, List.getElem?_cons_succ] at hj
    simp [(pos_of_mem_maximalRuns (List.mem_of_getElem? hj)).ne']

end Sys2Proof.Machine
end

section
/-! PROOFS. The statements of 42_run_length_scanner.md. -/

namespace Sys2Proof.Machine

/-- Settles O21: the maximal runs are the pieces of the row split between unequal neighbours; the White run of length 0
goes in front of a Black one only, so that the row of runs alternates from White in every case. -/
theorem runsOfARowCoverIt : Obligations.RunsOfARowCoverIt := by
  refine fun row => ⟨sum_runsOf row, fun j run hj => ?_, fun h => h ▸ runsOf_nil⟩
  have hempty := runsOf_length_eq_zero_iff hj
  exact ⟨(alternating_runsOf row).color_iff_even color_of_mem_head?_runsOf hj,
    fun hpos => Nat.pos_of_ne_zero fun h0 => hpos.ne' (hempty.1 h0).1, fun h0 => hempty.trans (and_iff_right h0)⟩

/-- Settles O18: with room the flush of the run goes through, and both scanner steps go on from the state it leaves. -/
theorem scannerCountsAndFlushes : Obligations.ScannerCountsAndFlushes := by
  refine ⟨fun s => rfl, fun b s hsame => exec_scanPixel_same ((colorOf_eq_iff _ _).2 hsame),
    fun b s hother hroom => ?_, fun w s hw hroom => ?_, exec_scanEnd_zero⟩
  · have hflush := flushRun_of_room hroom
    exact ⟨_, (exec_encFlushRun _ _ s).trans hflush, exec_scanPixel_other ((colorOf_eq_iff _ _).not.2 hother) hflush⟩
  · have hflush := flushRun_of_room hroom
    exact ⟨_, (exec_encFlushRun _ _ s).trans hflush, (exec_scanEnd_of_pos hw s).trans hflush⟩

end Sys2Proof.Machine
end

section
/-! SUPPORT. The codes of a run and the size of a row's code bits (43_encoder.md R94 to R99). -/

namespace Sys2Proof

-- ## The loop of the run flush (43_encoder.md R94)

theorem quantum_le_maxqLe {n : Nat} (h : 63 < n) : 64 ≤ maxqLe n :=
  ((isQuantum_iff_bounds _).1 (isQuantum_maxqLe h)).2.1

theorem runCodesUpTo_short {n : Nat} (h : n ≤ 63) (turns : Nat) (c : Color) :
    runCodesUpTo turns c n = [termCode c n] := by
  cases turns with
  | zero => rfl
  | succ turns => exact if_neg (Nat.not_lt.2 h)

theorem runCodesUpTo_long {n : Nat} (h : 63 < n) (turns : Nat) (c : Color) :
    runCodesUpTo (turns + 1) c n = makeupCode c (maxqLe n) :: runCodesUpTo turns c (n - maxqLe n) :=
  if_pos h

/-- Each turn of the loop takes at least one quantum of 64, so turns beyond `n div 64` are not taken. -/
theorem runCodesUpTo_eq_of_le {k m n : Nat} (hk : n / 64 ≤ k) (hm : n / 64 ≤ m) (c : Color) :
    runCodesUpTo k c n = runCodesUpTo m c n := by
  induction k generalizing m n with
  | zero => rw [runCodesUpTo_short (by omega), runCodesUpTo_short (by omega)]
  | succ k ih =>
    rcases Nat.lt_or_ge 63 n with hn | hn
    · have hquantum := quantum_le_maxqLe hn
      obtain ⟨m, rfl⟩ := Nat.exists_eq_add_one_of_ne_zero (show m ≠ 0 by omega)
      rw [runCodesUpTo_long hn, runCodesUpTo_long hn, ih (m := m) (by omega) (by omega)]
    · rw [runCodesUpTo_short hn, runCodesUpTo_short hn]

theorem runCodes_short {n : Nat} (h : n ≤ 63) (c : Color) : runCodes c n = [termCode c n] :=
  runCodesUpTo_short h _ c

theorem runCodes_long {n : Nat} (h : 63 < n) (c : Color) :
    runCodes c n = makeupCode c (maxqLe n) :: runCodes c (n - maxqLe n) := by
  have hquantum := quantum_le_maxqLe h
  calc runCodes c n = runCodesUpTo (n / 64 + 1) c n := runCodesUpTo_eq_of_le le_rfl (Nat.le_succ _) c
    _ = makeupCode c (maxqLe n) :: runCodesUpTo (n / 64) c (n - maxqLe n) := runCodesUpTo_long h _ c
    _ = makeupCode c (maxqLe n) :: runCodes c (n - maxqLe n) :=
      congrArg _ (runCodesUpTo_eq_of_le (by omega) le_rfl c)

/-- What holds of a run that a terminating code carries, and of a run whenever it holds of the rest behind its first
makeup code, holds of every run. -/
theorem run_induction {P : Nat → Prop} (short : ∀ n, n ≤ 63 → P n) (long : ∀ n, 63 < n → P (n - maxqLe n) → P n)
    (n : Nat) : P n := by
  induction n using Nat.strong_induction_on with
  | _ n ih =>
    rcases Nat.lt_or_ge 63 n with hn | hn
    · have hquantum := quantum_le_maxqLe hn
      exact long n hn (ih _ (by omega))
    · exact short n hn

-- ## How many codes a run has (43_encoder.md R97)

theorem length_runCodes_pos (c : Color) (n : Nat) : 1 ≤ (runCodes c n).length := by
  rcases Nat.lt_or_ge 63 n with hn | hn
  · rw [runCodes_long hn, List.length_cons]
    omega
  · rw [runCodes_short hn, List.length_singleton]

theorem length_runCodes_le_one_iff (c : Color) (n : Nat) : (runCodes c n).length ≤ 1 ↔ n ≤ 63 := by
  rcases Nat.lt_or_ge 63 n with hn | hn
  · have hrest := length_runCodes_pos c (n - maxqLe n)
    rw [runCodes_long hn, List.length_cons]
    omega
  · simp [runCodes_short hn, hn]

theorem length_runCodes_le_two_iff (c : Color) (n : Nat) : (runCodes c n).length ≤ 2 ↔ n ≤ 2623 := by
  rcases Nat.lt_or_ge 63 n with hn | hn
  · rw [runCodes_long hn, List.length_cons, Nat.succ_le_succ_iff, length_runCodes_le_one_iff, maxqLe_eq]
    omega
  · rw [runCodes_short hn, List.length_singleton]
    omega

-- ## How many bits a run has (43_encoder.md R99)

/-- The code bits of a run. -/
abbrev runBits (c : Color) (n : Nat) : List Bool := (runCodes c n).flatMap Code.bits

theorem length_runBits_short {n : Nat} (h : n ≤ 63) (c : Color) : (runBits c n).length = (termCode c n).len := by
  rw [runBits, runCodes_short h, List.flatMap_singleton, Code.length_bits]

theorem length_runBits_long {n : Nat} (h : 63 < n) (c : Color) :
    (runBits c n).length = (makeupCode c (maxqLe n)).len + (runBits c (n - maxqLe n)).length := by
  rw [runBits, runCodes_long h, List.flatMap_cons, List.length_append, Code.length_bits]

/-- The makeup codes have at most 13 bits. -/
theorem makeupCode_len_le {c : Color} {q : Nat} (h : isQuantum q = true) : (makeupCode c q).len ≤ 13 := by
  obtain ⟨j, hj, -⟩ := lutMakeup?_eq_some_iff.1 (lutMakeup?_of_isQuantum c h)
  have hmem := List.mem_of_getElem? hj
  cases c with
  | white =>
    have hlen := len_whiteMakeupTable _ hmem
    simp only [List.mem_cons, List.not_mem_nil, or_false] at hlen
    omega
  | black =>
    have hlen := len_blackMakeupTable _ hmem
    simp only [List.mem_cons, List.not_mem_nil, or_false] at hlen
    omega

/-- A run of one pixel costs 6 bits in White and 3 in Black; from two pixels on the 12 bits of the longest terminating
code are enough. -/
theorem termCode_len_le {c : Color} {n : Nat} (hn : 0 < n) (h : n < 64) : (termCode c n).len ≤ 6 * n := by
  have hlen := termCode_len_bounds c h
  rcases Nat.eq_or_lt_of_le (show 1 ≤ n from hn) with rfl | htwo
  · cases c <;> decide
  · omega

theorem length_runBits_pos (c : Color) (n : Nat) : 0 < (runBits c n).length := by
  induction n using run_induction with
  | short n hn =>
    have hlen := termCode_len_bounds c (Nat.lt_succ_of_le hn)
    rw [length_runBits_short hn]
    omega
  | long n hn ih =>
    rw [length_runBits_long hn]
    omega

/-- The White run of length 0 costs 8 bits (43_encoder.md R96). -/
theorem length_runBits_white_zero : (runBits .white 0).length = 8 := by decide

/-- A run costs at most 6 bits for each of its pixels: a quantum pays for its makeup code and for a terminating code of
length 0 behind it. -/
theorem length_runBits_le {c : Color} {n : Nat} (hpos : 0 < n) : (runBits c n).length ≤ 6 * n := by
  induction n using run_induction with
  | short n hn =>
    rw [length_runBits_short hn]
    exact termCode_len_le hpos (Nat.lt_succ_of_le hn)
  | long n hn ih =>
    have hmakeup : (makeupCode c (maxqLe n)).len ≤ 13 := makeupCode_len_le (isQuantum_maxqLe hn)
    have hquantum := quantum_le_maxqLe hn
    have hle := maxqLe_le n
    rw [length_runBits_long hn]
    rcases Nat.eq_zero_or_pos (n - maxqLe n) with hzero | hrest
    · have hterm := termCode_len_bounds c (n := 0) (by decide)
      rw [hzero, length_runBits_short (Nat.zero_le _)]
      omega
    · have hbits := ih hrest
      omega

end Sys2Proof

namespace Sys2Proof.Machine

-- ## How many bits a row has (43_encoder.md R99)

/-- The code bits of a list of runs. -/
def bitsOfRuns (runs : List (Color × Nat)) : List Bool := runs.flatMap fun run => runBits run.1 run.2

theorem rowBits_eq (row : List Bool) : rowBits row = bitsOfRuns (runsOf row) := rfl

theorem bitsOfRuns_cons (c : Color) (n : Nat) (runs : List (Color × Nat)) :
    bitsOfRuns ((c, n) :: runs) = runBits c n ++ bitsOfRuns runs := List.flatMap_cons ..

theorem bitsOfRuns_concat (runs : List (Color × Nat)) (c : Color) (n : Nat) :
    bitsOfRuns (runs ++ [(c, n)]) = bitsOfRuns runs ++ runBits c n := by
  rw [bitsOfRuns, List.flatMap_append, List.flatMap_singleton]
  rfl

theorem length_bitsOfRuns_le {runs : List (Color × Nat)} (hpos : ∀ run ∈ runs, 0 < run.2) :
    (bitsOfRuns runs).length ≤ 6 * (runs.map Prod.snd).sum := by
  induction runs with
  | nil => exact Nat.zero_le _
  | cons run runs ih =>
    obtain ⟨hrun, hruns⟩ := List.forall_mem_cons.1 hpos
    have hfirst : (runBits run.1 run.2).length ≤ 6 * run.2 := length_runBits_le hrun
    have hrest := ih hruns
    rw [bitsOfRuns_cons, List.length_append, List.map_cons, List.sum_cons]
    omega

theorem length_bitsOfRuns_pos {runs : List (Color × Nat)} (h : runs ≠ []) : 0 < (bitsOfRuns runs).length := by
  obtain ⟨⟨c, n⟩, rest, rfl⟩ := List.exists_cons_of_ne_nil h
  rw [bitsOfRuns_cons, List.length_append]
  exact Nat.add_pos_left (length_runBits_pos c n) _

theorem length_bitsOfRuns_maximalRuns_le (row : List Bool) :
    (bitsOfRuns (maximalRuns row)).length ≤ 6 * row.length :=
  sum_maximalRuns row ▸ length_bitsOfRuns_le fun _ => pos_of_mem_maximalRuns

theorem runsOf_ne_nil {row : List Bool} (h : row ≠ []) : runsOf row ≠ [] := by
  intro hruns
  have hsum := sum_runsOf row
  rw [hruns] at hsum
  exact h (List.eq_nil_of_length_eq_zero hsum.symm)

/-- No run is longer than its row. -/
theorem le_length_of_mem_maximalRuns {row : List Bool} {run : Color × Nat} (h : run ∈ maximalRuns row) :
    run.2 ≤ row.length :=
  sum_maximalRuns row ▸ List.le_sum_of_mem (List.mem_map_of_mem h)

theorem roundTripRow_iff (row : List Bool) : roundTripRow row = true ↔ ∀ run ∈ maximalRuns row, run.2 ≤ 2623 := by
  simp only [roundTripRow, List.all_eq_true, decide_eq_true_eq]
  rfl

end Sys2Proof.Machine
end

section
/-! PROOFS. The statements of 43_encoder.md about runs and rows. -/

namespace Sys2Proof.Machine

/-- Settles O19: `n div 64` turns are enough for the loop of a run, and the bits of its codes are written in one go. -/
theorem flushRunWritesTheCodesOfTheRun : Obligations.FlushRunWritesTheCodesOfTheRun := by
  refine ⟨fun c n => ?_, fun c n s hroom => ?_⟩
  · split_ifs with hn
    · exact runCodes_long hn c
    · exact runCodes_short (Nat.not_lt.1 hn) c
  · exact ⟨twPutBits (runBits c n) s, (exec_encFlushRun c n s).trans (flushRun_of_room hroom), twPutBits_eq _ s,
      codeBit_twPutBits _ s⟩

/-- Settles O20: behind the makeup code of 2560 a terminating code carries 63 pixels more, and no run is longer than its
row. -/
theorem oneMakeupCodeExactlyUpToRoundTripLimit : Obligations.OneMakeupCodeExactlyUpToRoundTripLimit :=
  ⟨length_runCodes_le_two_iff, roundTripRow_iff, fun row hrow =>
    (roundTripRow_iff row).2 fun _ hrun => (le_length_of_mem_maximalRuns hrun).trans hrow⟩

/-- Settles O22: a maximal run costs at most 6 bits for each of its pixels, and the White run of length 0 that goes in
front of a Black one costs 8. -/
theorem encodedRowIsShort : Obligations.EncodedRowIsShort := by
  intro row hrow
  rw [rowBits_eq]
  refine ⟨length_bitsOfRuns_pos (runsOf_ne_nil hrow), ?_⟩
  have hmax := length_bitsOfRuns_maximalRuns_le row
  match row with
  | [] => contradiction
  | false :: row =>
    rw [runsOf_white]
    omega
  | true :: row =>
    rw [runsOf_black, bitsOfRuns_cons, List.length_append, length_runBits_white_zero]
    omega

end Sys2Proof.Machine
end

section
/-! SUPPORT. The turns of ENCODE_ROW as equations, and the room that the constraint of 00_scope.md R8 leaves them
(43_encoder.md R98, R99, R101). -/

namespace Sys2Proof.Machine

-- ## What a turn leaves (43_encoder.md R98)

/-- A pixel of the other colour taken: the run before it flushed, and the pixel the first one of the next run. -/
def startRun (s : State) : State :=
  { twPutBits (runBits s.curColor s.runCnt) (nrAdvance 1 s) with curColor := s.curColor.other, runCnt := 1 }

/-- The next pixel taken. -/
def takePixel (s : State) : State :=
  if colorOf (pixBit s s.nrPos) = s.curColor then countPixel (nrAdvance 1 s) else startRun s

/-- The code bits that SCAN.END writes: those of the last run, unless the row is empty. -/
def lastBits (s : State) : List Bool := if s.nrLim = 0 then [] else runBits s.curColor s.runCnt

/-- The pad bits that TW.FLUSH writes behind a number of stream bits. -/
def padBits (p : Nat) : List Bool := List.replicate (padCount p) false

/-- The end of the operation: the last run flushed, the last byte padded, OUT_LEN and the result registers set. -/
def closeCode (s : State) : State :=
  let bs := lastBits s ++ padBits (s.twPos + (lastBits s).length)
  endNormally { twPutBits bs s with outLen := ceil8 (s.twPos + (lastBits s).length) }

theorem takePixel_same {s : State} (h : colorOf (pixBit s s.nrPos) = s.curColor) :
    takePixel s = countPixel (nrAdvance 1 s) := if_pos h

theorem takePixel_other {s : State} (h : colorOf (pixBit s s.nrPos) ≠ s.curColor) : takePixel s = startRun s :=
  if_neg h

@[simp] theorem twPutBits_twPos (bs : List Bool) (s : State) : (twPutBits bs s).twPos = s.twPos + bs.length := by
  rw [twPutBits_eq]

/-- What the flush of a run and its successor leave as they are: all but the scanner, the two positions and CODE. -/
theorem startRun_eq (s : State) :
    startRun s = { s with
      curColor := s.curColor.other, runCnt := 1, nrPos := s.nrPos + 1
      twPos := s.twPos + (runBits s.curColor s.runCnt).length, code := (startRun s).code } := by
  unfold startRun
  rw [twPutBits_eq]
  rfl

@[simp] theorem takePixel_nrPos (s : State) : (takePixel s).nrPos = s.nrPos + 1 := by
  unfold takePixel
  split
  · rfl
  · rw [startRun_eq]

@[simp] theorem takePixel_nrLim (s : State) : (takePixel s).nrLim = s.nrLim := by
  unfold takePixel
  split
  · rfl
  · rw [startRun_eq]

theorem length_padBits (p : Nat) : p + (padBits p).length = 8 * ceil8 p := by
  rw [padBits, List.length_replicate, add_padCount]

theorem step_of_encodeRow {s : State} (hbusy : s.busy = some .encodeRow) : step s = encodeTurn s := by
  rw [step, hbusy]

/-- With a pixel left and room for the run before it, the turn takes the pixel. -/
theorem encodeTurn_of_pixel_left {s : State} (hin : s.nrPos < s.nrLim)
    (hroom : twRoom (runBits s.curColor s.runCnt).length s = true) : encodeTurn s = .next (takePixel s) := by
  rw [encodeTurn, if_neg hin.ne, if_pos hin]
  by_cases hsame : colorOf (pixBit s s.nrPos) = s.curColor
  · rw [takePixel_same hsame]
    exact exec_scanPixel_same (s := nrAdvance 1 s) hsame
  · rw [takePixel_other hsame]
    exact exec_scanPixel_other (s := nrAdvance 1 s) hsame (flushRun_of_room hroom)

/-- At the end of the row, with room for the last run and the pad bits, the turn ends the operation. -/
theorem encodeTurn_of_row_ended {s : State} (hend : s.nrPos = s.nrLim)
    (hroom : twRoom (lastBits s ++ padBits (s.twPos + (lastBits s).length)).length s = true) :
    encodeTurn s = .next (closeCode s) := by
  have hlast : twRoom (lastBits s).length s = true :=
    within_of_le (by rw [List.length_append]; omega) hroom
  have hscan : scanEnd s.nrLim s = .next (twPutBits (lastBits s) s) := by
    unfold scanEnd lastBits
    split
    · rfl
    next hpos =>
      rw [lastBits, if_neg hpos] at hlast
      exact flushRun_of_room hlast
  have hflush : twFlush (twPutBits (lastBits s) s) =
      .next (twPutBits (lastBits s ++ padBits (s.twPos + (lastBits s).length)) s) := by
    rw [twPutBits_append, ← twPutBits_twPos]
    refine twWriteBits_of_room ?_
    rw [twRoom_twPutBits]
    simpa [padBits] using hroom
  rw [encodeTurn, if_pos hend, finishEncode, hscan]
  simp only [hflush, closeCode, twPutBits_twPos, List.length_append, ← Nat.add_assoc, length_padBits]
  rw [Nat.mul_div_cancel_left _ (by decide)]

-- ## The room (43_encoder.md R99, 00_scope.md R8)

/-- Under the constraint of R8 the bytes that hold the code bits of a row exist. -/
theorem within_bytes_of_codeHoldsRow {cap : Config.Capacity} {w p : Nat} (hcap : cap.codeHoldsRow = true) (hw : 0 < w)
    (hfits : Config.within w cap.maxRowBits = true) (hp : p ≤ 8 + 6 * w) :
    Config.within (8 * ceil8 p) (cap.maxCodeBytes.map (8 * ·)) = true := by
  obtain ⟨rowBound, codeBound, lenw⟩ := cap
  cases codeBound with
  | none => rfl
  | some m =>
    cases rowBound with
    | none => cases hcap
    | some r =>
      have hwr : w ≤ r := of_decide_eq_true hfits
      simp only [Config.Capacity.codeHoldsRow, Bool.or_eq_true, beq_iff_eq, decide_eq_true_eq] at hcap
      refine decide_eq_true ?_
      show 8 * ceil8 p ≤ 8 * m
      unfold ceil8
      omega

/-- The states of `Obligations.EncodeRowNeverRunsOutOfCode`: ENCODE_ROW runs within its limits and within the bound of
43_encoder.md R99. -/
structure Encodes (s : State) : Prop where
  codeHoldsRow : s.cap.codeHoldsRow = true
  busy : s.busy = some .encodeRow
  nrPos_le : s.nrPos ≤ s.nrLim
  rowFits : Config.within s.nrLim s.cap.maxRowBits = true
  room : EncodeRoom s

namespace Encodes

variable {s : State}

theorem empty (h : Encodes s) (hzero : s.nrPos = 0) : s.twPos = 0 ∧ s.runCnt = 0 ∧ s.curColor = .white :=
  (h.room h.busy).1 hzero

theorem nonempty (h : Encodes s) (hpos : 0 < s.nrPos) : 0 < s.runCnt ∧ s.twPos + 6 * s.runCnt ≤ 8 + 6 * s.nrPos :=
  (h.room h.busy).2 hpos

/-- The bound of R99 holds behind the codes of the current run as well. -/
theorem flush_le (h : Encodes s) : s.twPos + (runBits s.curColor s.runCnt).length ≤ 8 + 6 * s.nrPos := by
  rcases Nat.eq_zero_or_pos s.nrPos with hzero | hpos
  · obtain ⟨htw, hcnt, hcolor⟩ := h.empty hzero
    rw [htw, hcnt, hcolor, length_runBits_white_zero]
    omega
  · obtain ⟨hcnt, hbound⟩ := h.nonempty hpos
    have hrun : (runBits s.curColor s.runCnt).length ≤ 6 * s.runCnt := length_runBits_le hcnt
    omega

theorem room_flush (h : Encodes s) (hin : s.nrPos < s.nrLim) :
    twRoom (runBits s.curColor s.runCnt).length s = true := by
  have hflush := h.flush_le
  refine within_of_le ?_ (within_bytes_of_codeHoldsRow h.codeHoldsRow (by omega) h.rowFits
    (p := s.twPos + (runBits s.curColor s.runCnt).length) (by omega))
  unfold ceil8
  omega

theorem room_close (h : Encodes s) (hend : s.nrPos = s.nrLim) :
    twRoom (lastBits s ++ padBits (s.twPos + (lastBits s).length)).length s = true := by
  rw [twRoom, List.length_append, ← Nat.add_assoc, length_padBits, lastBits]
  split
  next hzero =>
    rw [(h.empty (hend.trans hzero)).1]
    exact within_zero _
  next hpos =>
    exact within_bytes_of_codeHoldsRow h.codeHoldsRow (Nat.pos_of_ne_zero hpos) h.rowFits (hend ▸ h.flush_le)

theorem step_of_pixel_left (h : Encodes s) (hin : s.nrPos < s.nrLim) : step s = .next (takePixel s) :=
  (step_of_encodeRow h.busy).trans (encodeTurn_of_pixel_left hin (h.room_flush hin))

theorem step_of_row_ended (h : Encodes s) (hend : s.nrPos = s.nrLim) : step s = .next (closeCode s) :=
  (step_of_encodeRow h.busy).trans (encodeTurn_of_row_ended hend (h.room_close hend))

/-- A pixel counted adds 6 to both sides of the bound. -/
theorem countPixel (h : Encodes s) (hin : s.nrPos < s.nrLim) : Encodes (countPixel (nrAdvance 1 s)) where
  codeHoldsRow := h.codeHoldsRow
  busy := h.busy
  nrPos_le := hin
  rowFits := h.rowFits
  room _ := by
    refine ⟨fun hzero => absurd hzero (Nat.succ_ne_zero _), fun _ => ⟨Nat.succ_pos _, ?_⟩⟩
    show s.twPos + 6 * (s.runCnt + 1) ≤ 8 + 6 * (s.nrPos + 1)
    rcases Nat.eq_zero_or_pos s.nrPos with hzero | hpos
    · obtain ⟨htw, hcnt, -⟩ := h.empty hzero
      omega
    · obtain ⟨-, hbound⟩ := h.nonempty hpos
      omega

/-- A run flushed stays within the bound of the pixels before it, and its successor is one pixel long. -/
theorem startRun (h : Encodes s) (hin : s.nrPos < s.nrLim) : Encodes (startRun s) := by
  have hflush := h.flush_le
  rw [startRun_eq]
  refine ⟨h.codeHoldsRow, h.busy, hin, h.rowFits, fun _ => ?_⟩
  refine ⟨fun hzero => absurd hzero (Nat.succ_ne_zero _), fun _ => ⟨Nat.one_pos, ?_⟩⟩
  show s.twPos + (runBits s.curColor s.runCnt).length + 6 * 1 ≤ 8 + 6 * (s.nrPos + 1)
  omega

theorem takePixel (h : Encodes s) (hin : s.nrPos < s.nrLim) : Encodes (takePixel s) := by
  unfold Machine.takePixel
  split
  · exact h.countPixel hin
  · exact h.startRun hin

end Encodes

end Sys2Proof.Machine
end

section
/-! PROOFS. The statement of 43_encoder.md about the room in CODE. -/

namespace Sys2Proof.Machine

/-- Settles O48: a turn takes a pixel, which the bound of R99 has room for and survives, or ends the operation. -/
theorem encodeRowNeverRunsOutOfCode : Obligations.EncodeRowNeverRunsOutOfCode := by
  intro s hcap hbusy hle hfits hroom
  have h : Encodes s := ⟨hcap, hbusy, hle, hfits, hroom⟩
  rcases Nat.eq_or_lt_of_le hle with hend | hin
  · exact ⟨closeCode s, h.step_of_row_ended hend, nofun⟩
  · exact ⟨takePixel s, h.step_of_pixel_left hin, (h.takePixel hin).room⟩

end Sys2Proof.Machine
end

section
/-! SUPPORT. ENCODE_ROW along a row: the runs the scanner has seen, and the code bits its writer has written
(42_run_length_scanner.md R92, 43_encoder.md R98). -/

namespace Sys2Proof.Machine

-- ## The runs of the pixels taken so far (42_run_length_scanner.md R92)

/-- The pixels of a list of runs. -/
def pixelsOf (runs : List (Color × Nat)) : List Bool := runs.flatMap fun run => List.replicate run.2 run.1.bit

@[simp] theorem pixelsOf_nil : pixelsOf [] = [] := rfl

@[simp] theorem pixelsOf_cons (c : Color) (n : Nat) (runs : List (Color × Nat)) :
    pixelsOf ((c, n) :: runs) = List.replicate n c.bit ++ pixelsOf runs := List.flatMap_cons ..

@[simp] theorem pixelsOf_append (runs runs' : List (Color × Nat)) :
    pixelsOf (runs ++ runs') = pixelsOf runs ++ pixelsOf runs' := List.flatMap_append ..

@[simp] theorem colorOf_bit (c : Color) : colorOf c.bit = c := by cases c <;> rfl

theorem bit_colorOf (b : Bool) : (colorOf b).bit = b := by cases b <;> rfl

/-- Alternating runs, none of them empty, are the maximal runs of their pixels. -/
theorem maximalRuns_pixelsOf {runs : List (Color × Nat)} (halt : Alternating runs) (hpos : ∀ run ∈ runs, 0 < run.2) :
    maximalRuns (pixelsOf runs) = runs := by
  have hsplit : (pixelsOf runs).splitBy (· == ·) = runs.map fun run => List.replicate run.2 run.1.bit := by
    rw [pixelsOf, List.flatMap_def]
    refine List.splitBy_flatten ?_ ?_ ?_
    · intro hnil
      obtain ⟨run, hrun, hempty⟩ := List.mem_map.1 hnil
      exact (hpos run hrun).ne' ((List.replicate_eq_nil_iff _).1 hempty)
    · intro piece hpiece
      obtain ⟨run, -, rfl⟩ := List.mem_map.1 hpiece
      exact List.isChain_replicate_of_rel _ (beq_self_eq_true _)
    · refine (List.isChain_map _).2 (halt.imp_of_mem_imp fun run next hrun hnext hother => ?_)
      have hrun' : List.replicate run.2 run.1.bit ≠ [] := mt (List.replicate_eq_nil_iff _).1 (hpos run hrun).ne'
      have hnext' : List.replicate next.2 next.1.bit ≠ [] := mt (List.replicate_eq_nil_iff _).1 (hpos next hnext).ne'
      refine ⟨hrun', hnext', ?_⟩
      rw [List.getLast_replicate, List.head_replicate, hother]
      cases run.1 <;> rfl
  rw [maximalRuns, hsplit, List.map_map]
  refine (List.map_congr_left fun run hrun => ?_).trans (List.map_id runs)
  obtain ⟨c, n⟩ := run
  obtain ⟨n, rfl⟩ := Nat.exists_eq_add_one_of_ne_zero (hpos _ hrun).ne'
  simp [List.replicate_succ]

/-- `runs` are the runs of a row as the scanner counts them: from White on, with at most the first one empty. -/
structure ScanOf (row : List Bool) (runs : List (Color × Nat)) : Prop where
  pixels : pixelsOf runs = row
  alternating : Alternating runs
  white_first : ∀ run ∈ runs.head?, run.1 = .white
  tail_pos : ∀ run ∈ runs.tail, 0 < run.2

namespace ScanOf

variable {row : List Bool} {runs : List (Color × Nat)} {c : Color} {n : Nat}

/-- SCAN.INIT: a White run of no pixels. -/
theorem init : ScanOf [] [(.white, 0)] := ⟨rfl, List.isChain_singleton _, by simp, nofun⟩

/-- A pixel of the current colour makes the run longer. -/
theorem count (h : ScanOf row (runs ++ [(c, n)])) : ScanOf (row ++ [c.bit]) (runs ++ [(c, n + 1)]) where
  pixels := by
    rw [← h.pixels]
    simp [List.replicate_succ']
  alternating := by
    have halt := h.alternating
    unfold Alternating at halt ⊢
    rw [List.isChain_append] at halt ⊢
    simpa using halt
  white_first := by
    have hwhite := h.white_first
    cases runs <;> simpa using hwhite
  tail_pos := by
    have hpos := h.tail_pos
    cases runs with
    | nil => nofun
    | cons first rest => exact List.forall_mem_append.2 ⟨(List.forall_mem_append.1 hpos).1, by simp⟩

/-- A pixel of the other colour begins the next run. -/
theorem turn (h : ScanOf row (runs ++ [(c, n)])) :
    ScanOf (row ++ [c.other.bit]) (runs ++ [(c, n)] ++ [(c.other, 1)]) where
  pixels := by
    rw [pixelsOf_append, h.pixels]
    simp
  alternating := by
    refine List.isChain_append.2 ⟨h.alternating, List.isChain_singleton _, ?_⟩
    simp
  white_first := by
    have hwhite := h.white_first
    cases runs <;> simpa using hwhite
  tail_pos := by
    rw [List.tail_append_of_ne_nil (by simp)]
    exact List.forall_mem_append.2 ⟨h.tail_pos, by simp⟩

/-- The runs of a row of at least one pixel, as the scanner counts them, are those of R92. -/
theorem runsOf_eq (h : ScanOf row runs) (hrow : row ≠ []) : runsOf row = runs := by
  obtain ⟨rfl, halt, hwhite, hpos⟩ := h
  match runs with
  | [] => contradiction
  | (c, 0) :: rest =>
    obtain rfl : c = .white := hwhite _ rfl
    obtain ⟨hnext, hrest⟩ := List.isChain_cons.1 halt
    have hmax := maximalRuns_pixelsOf hrest hpos
    match rest with
    | [] => contradiction
    | (d, 0) :: _ => exact absurd (hpos _ List.mem_cons_self) (Nat.lt_irrefl 0)
    | (d, m + 1) :: rest =>
      obtain rfl : d = .black := hnext _ rfl
      rw [pixelsOf_cons, List.replicate_succ, List.cons_append] at hmax
      exact (runsOf_black _).trans (congrArg _ hmax)
  | (c, n + 1) :: rest =>
    obtain rfl : c = .white := hwhite _ rfl
    have hmax := maximalRuns_pixelsOf halt (List.forall_mem_cons.2 ⟨Nat.succ_pos n, hpos⟩)
    rw [pixelsOf_cons, List.replicate_succ, List.cons_append] at hmax ⊢
    exact (runsOf_white _).trans hmax

end ScanOf

-- ## The bits written so far (41_bit_accessors.md R76, R77)

/-- From the start of CODE on, `t` holds the given stream bits and its writer stands behind them; all other bits of CODE
are those of `s`. -/
def Written (s t : State) (bs : List Bool) : Prop :=
  t.twPos = bs.length ∧ ∀ p, codeBit t p = if p < bs.length then bs.getD p false else codeBit s p

theorem written_nil {s : State} (h : s.twPos = 0) : Written s s [] := ⟨h, fun p => by simp⟩

/-- What is written at the writer's position goes behind what was written before. -/
theorem Written.twPutBits {s t : State} {bs : List Bool} (h : Written s t bs) (cs : List Bool) :
    Written s (twPutBits cs t) (bs ++ cs) := by
  obtain ⟨hpos, hbits⟩ := h
  refine ⟨by rw [twPutBits_twPos, hpos, List.length_append], fun p => ?_⟩
  rw [codeBit_twPutBits, hbits, hpos, List.length_append]
  rcases Nat.lt_or_ge p bs.length with hold | hnew
  · rw [if_neg (by omega), if_pos hold, if_pos (by omega), List.getD_append _ _ _ _ hold]
  · rw [if_neg (Nat.not_lt.2 hnew), List.getD_append_right _ _ _ _ hnew]
    simp only [hnew, true_and]

/-- A byte of which every stream bit is as before is as before. -/
theorem codeByte_eq_of_codeBit_eq {s t : State} {a : Nat}
    (h : ∀ j, j < 8 → codeBit t (8 * a + j) = codeBit s (8 * a + j)) : codeByte t a = codeByte s a := by
  refine BitVec.eq_of_getLsbD_eq fun j hj => ?_
  have hbit := h j hj
  rwa [codeBit, codeBit, Nat.mul_add_div (by decide), Nat.mul_add_mod, Nat.div_eq_of_lt hj, Nat.mod_eq_of_lt hj,
    Nat.add_zero] at hbit

/-- Bytes above the bits written are as before. -/
theorem Written.codeByte_eq {s t : State} {bs : List Bool} (h : Written s t bs) {a : Nat} (ha : bs.length ≤ 8 * a) :
    codeByte t a = codeByte s a := by
  refine codeByte_eq_of_codeBit_eq fun j _ => ?_
  rw [h.2, if_neg (by omega)]

theorem length_append_padBits (bs : List Bool) : (bs ++ padBits bs.length).length = 8 * ceil8 bs.length := by
  rw [List.length_append, length_padBits]

/-- Pad bits behind stream bits are what reading past their end gives. -/
theorem getD_append_padBits (bs : List Bool) (k p : Nat) : (bs ++ padBits k).getD p false = bs.getD p false := by
  rcases Nat.lt_or_ge p bs.length with hold | hnew
  · rw [List.getD_append _ _ _ _ hold]
  · rw [List.getD_append_right _ _ _ _ hnew, List.getD_eq_default _ _ hnew, padBits, List.getD_eq_getElem?_getD,
      List.getElem?_getD_replicate_default_eq]

-- ## ENCODE_ROW from its start on (43_encoder.md R98)

theorem rowPixels_succ (s : State) (w : Nat) : rowPixels s (w + 1) = rowPixels s w ++ [pixBit s w] := by
  simp [rowPixels, List.range_succ]

/-- ENCODE_ROW, started in `s`, has come to `t`: the runs before the current one are flushed, and with the current one
they are the runs of the pixels taken. -/
structure Encoded (s t : State) (runs : List (Color × Nat)) : Prop where
  encodes : Encodes t
  working : Working .encodeRow s t
  pending : t.pending = s.pending
  nrLim : t.nrLim = s.nrLim
  scan : ScanOf (rowPixels s t.nrPos) (runs ++ [(t.curColor, t.runCnt)])
  written : Written s t (bitsOfRuns runs)

namespace Encoded

variable {s t : State} {runs : List (Color × Nat)}

theorem pixBit_eq (h : Encoded s t runs) (p : Nat) : pixBit t p = pixBit s p := by
  have hpix : t.pix = s.pix := h.working.input
  rw [pixBit, pixBit, pixByte, pixByte, hpix]

/-- A pixel of the current colour is counted. -/
theorem count (h : Encoded s t runs) (hin : t.nrPos < t.nrLim) (hsame : colorOf (pixBit t t.nrPos) = t.curColor) :
    Encoded s (countPixel (nrAdvance 1 t)) runs where
  encodes := h.encodes.countPixel hin
  working := { h.working with }
  pending := h.pending
  nrLim := h.nrLim
  scan := by
    have hbit : pixBit s t.nrPos = t.curColor.bit := by rw [← hsame, bit_colorOf, h.pixBit_eq]
    rw [countPixel_nrPos, nrAdvance_nrPos, rowPixels_succ, hbit]
    exact h.scan.count
  written := h.written

/-- A pixel of the other colour begins a run, and the run before it is written. -/
theorem turn (h : Encoded s t runs) (hin : t.nrPos < t.nrLim) (hother : colorOf (pixBit t t.nrPos) ≠ t.curColor) :
    Encoded s (startRun t) (runs ++ [(t.curColor, t.runCnt)]) where
  encodes := h.encodes.startRun hin
  working := h.working.trans { working_twPutBits (runBits t.curColor t.runCnt) (nrAdvance 1 t) with }
  pending := (twPutBits_pending _ _).trans h.pending
  nrLim := by rw [startRun_eq, h.nrLim]
  scan := by
    have hbit : pixBit s t.nrPos = t.curColor.other.bit := by
      rw [← Color.eq_other_iff_ne.2 hother, bit_colorOf, h.pixBit_eq]
    rw [startRun_eq, rowPixels_succ, hbit]
    exact h.scan.turn
  written := by
    rw [bitsOfRuns_concat]
    have hwritten : Written s (nrAdvance 1 t) (bitsOfRuns runs) := h.written
    exact hwritten.twPutBits _

theorem takePixel (h : Encoded s t runs) (hin : t.nrPos < t.nrLim) :
    ∃ runs', Encoded s (takePixel t) runs' := by
  by_cases hsame : colorOf (pixBit t t.nrPos) = t.curColor
  · rw [takePixel_same hsame]
    exact ⟨_, h.count hin hsame⟩
  · rw [takePixel_other hsame]
    exact ⟨_, h.turn hin hsame⟩

/-- With one step for each pixel left and one more the operation ends. -/
theorem run (h : Encoded s t runs) {k : Nat} (hk : t.nrPos + k = t.nrLim) :
    ∃ u runs', Host.Core.run core (k + 1) t = .next (closeCode u) ∧ Encoded s u runs' ∧ u.nrPos = u.nrLim := by
  induction k generalizing t runs with
  | zero => exact ⟨t, runs, run_succ_of_step (M := core) (h.encodes.step_of_row_ended hk) 0, h, hk⟩
  | succ k ih =>
    have hin : t.nrPos < t.nrLim := by omega
    obtain ⟨runs', htaken⟩ := h.takePixel hin
    have hk' : (Machine.takePixel t).nrPos + k = (Machine.takePixel t).nrLim := by
      rw [takePixel_nrPos, takePixel_nrLim]
      omega
    obtain ⟨u, runs'', hrun, hu, hend⟩ := ih htaken hk'
    exact ⟨u, runs'', (run_succ_of_step (M := core) (h.encodes.step_of_pixel_left hin) _).trans hrun, hu, hend⟩

/-- At the end of the row the bits written and those of the last run are the code bits of the row. -/
theorem rowBits_eq (h : Encoded s t runs) (hend : t.nrPos = t.nrLim) :
    rowBits (rowPixels s s.nrLim) = bitsOfRuns runs ++ lastBits t := by
  have hscan := h.scan
  rw [hend, h.nrLim] at hscan
  rw [lastBits, h.nrLim]
  split
  next hzero =>
    have hempty : (bitsOfRuns runs).length = 0 :=
      h.written.1.symm.trans (h.encodes.empty (hend.trans (h.nrLim.trans hzero))).1
    rw [List.eq_nil_of_length_eq_zero hempty, hzero]
    rfl
  next hpos =>
    have hrow : rowPixels s s.nrLim ≠ [] := by simpa [rowPixels] using hpos
    rw [Machine.rowBits_eq, hscan.runsOf_eq hrow, bitsOfRuns_concat]

theorem closeCode_written (h : Encoded s t runs) (hend : t.nrPos = t.nrLim) :
    Written s (closeCode t)
      (rowBits (rowPixels s s.nrLim) ++ padBits (rowBits (rowPixels s s.nrLim)).length) := by
  have hbits := h.rowBits_eq hend
  have hlen : t.twPos + (lastBits t).length = (rowBits (rowPixels s s.nrLim)).length := by
    rw [hbits, List.length_append, h.written.1]
  rw [← hlen, hbits, List.append_assoc]
  exact h.written.twPutBits (lastBits t ++ padBits (t.twPos + (lastBits t).length))

theorem closeCode_outLen (h : Encoded s t runs) (hend : t.nrPos = t.nrLim) :
    (closeCode t).outLen = ceil8 (rowBits (rowPixels s s.nrLim)).length := by
  rw [h.rowBits_eq hend, List.length_append, ← h.written.1]
  rfl

end Encoded

/-- The step that starts ENCODE_ROW. -/
theorem step_of_encodeRow_command {s : State} {a : HostAction} {rest : List HostAction} (hidle : s.busy = none)
    (hnext : s.pending = a :: rest) (ha : a.instr = .encodeRow) :
    step s = .next (startEncode { s with pending := rest }) := by
  rw [step, hidle]
  show hostTurn s = _
  rw [hostTurn, hnext]
  show exec a.instr _ = _
  rw [ha]
  exact whenIdle_of_idle hidle _

/-- At its start ENCODE_ROW has come to a White run of no pixels, with nothing written. -/
theorem encoded_startEncode {s : State} (hfits : Config.within s.inLen s.cap.maxRowBits = true)
    (hcap : s.cap.codeHoldsRow = true) : Encoded (startEncode s) (startEncode s) [] where
  encodes := by
    rw [startEncode_of_fits hfits]
    exact ⟨hcap, rfl, Nat.zero_le _, hfits,
      fun _ => ⟨fun _ => ⟨rfl, rfl, rfl⟩, fun hpos => absurd hpos (Nat.lt_irrefl 0)⟩⟩
  working := .refl _ _
  pending := rfl
  nrLim := rfl
  scan := by
    rw [startEncode_of_fits hfits]
    exact .init
  written := written_nil (by rw [startEncode_of_fits hfits])

end Sys2Proof.Machine
end

section
/-! PROOFS. The statement of 43_encoder.md about ENCODE_ROW as a whole. -/

namespace Sys2Proof.Machine

/-- Settles O49: after its start ENCODE_ROW takes the pixels one by one, each time with the runs before the current one
written, and at the end it writes the last run and the pad bits. -/
theorem encodeRowWritesTheCodesOfTheRow : Obligations.EncodeRowWritesTheCodesOfTheRow := by
  intro s a rest hidle hnext ha hfits hcap
  have hstart := startEncode_of_fits (s := { s with pending := rest }) hfits
  have hencoded := encoded_startEncode (s := { s with pending := rest }) hfits hcap
  rw [hstart] at hencoded
  obtain ⟨u, runs, hrun, hu, hend⟩ := hencoded.run (k := s.inLen) (Nat.zero_add _)
  have hfirst := step_of_encodeRow_command hidle hnext ha
  rw [hstart] at hfirst
  have hout : (closeCode u).outLen = ceil8 (rowBits (rowPixels s s.inLen)).length := hu.closeCode_outLen hend
  have hwritten := hu.closeCode_written hend
  have hwork := hu.working.trans (working_twPutBits (lastBits u ++ padBits (u.twPos + (lastBits u).length)) u)
  refine ⟨closeCode u, (run_succ_of_step (M := core) hfirst _).trans hrun, rfl, ?_, withDone_withoutErr _, rfl, rfl,
    hout, fun p hp => ?_, fun addr haddr => ?_, hwork.input, hwork.ctrl, hwork.inLen, hwork.expWidth⟩
  · exact (twPutBits_pending _ u).trans hu.pending
  · rw [hwritten.2, length_append_padBits, getD_append_padBits]
    exact if_pos (hout ▸ hp)
  · refine hwritten.codeByte_eq (a := addr) ?_
    rw [length_append_padBits]
    exact Nat.mul_le_mul_left 8 (hout ▸ haddr)

end Sys2Proof.Machine
end

section
/-! SUPPORT. What DEC.BIT, DEC.END and the codes of the stream leave behind (44_decoder.md R102 to R116). -/

namespace Sys2Proof

-- ## The accumulator (44_decoder.md R104)

theorem shiftBit_eq_ofNat (v : BitVec 14) (b : Bool) : shiftBit v b = BitVec.ofNat 14 (2 * v.toNat + bitNat b) := by
  refine BitVec.eq_of_getLsbD_eq fun i hi => ?_
  rw [BitVec.getLsbD_ofNat, Machine.testBit_two_mul_add_bitNat, decide_eq_true hi, Bool.true_and, shiftBit,
    BitVec.getLsbD_or, BitVec.getLsbD_shiftLeft, decide_eq_true hi]
  cases i with
  | zero => cases b <;> simp
  | succ i =>
    have hkept : v.toNat.testBit i = v.getLsbD i := rfl
    cases b <;> simp [hkept]

-- ## The places of the decoder's states (10_state.md R15)

theorem DecState.makeupSeen_eq_ite (c : Color) :
    DecState.makeupSeen c = if c = .white then .whiteRunMakeupSeen else .blackRunMakeupSeen := by cases c <;> rfl

theorem DecState.expect_eq_ite (c : Color) :
    DecState.expect c = if c = .white then .expectingWhiteRun else .expectingBlackRun := by cases c <;> rfl

theorem DecState.expect_other_eq_ite (c : Color) :
    DecState.expect c.other = if c = .white then .expectingBlackRun else .expectingWhiteRun := by cases c <;> rfl

-- ## EOL is no other code

theorem eolCode_notMem_termTable (c : Color) : eolCode ∉ termTable c := by cases c <;> decide

theorem eolCode_notMem_makeupTable (c : Color) : eolCode ∉ makeupTable c := by cases c <;> decide

theorem isEol_eq_false_of_matchesAcc {k : Code} {v : BitVec 14} {l : Nat} (hk : k ≠ eolCode)
    (h : k.matchesAcc v l = true) : isEol v l = false :=
  Bool.eq_false_iff.2 fun heol => hk (Code.eq_of_matchesAcc h heol)

theorem isEol_eq_false_of_matchTerm {c : Color} {v : BitVec 14} {l n : Nat} (h : matchTerm c v l = some n) :
    isEol v l = false := by
  obtain ⟨k, hk, hmatch⟩ := matchTerm_eq_some_iff.1 h
  refine isEol_eq_false_of_matchesAcc ?_ hmatch
  rintro rfl
  exact eolCode_notMem_termTable c (List.mem_of_getElem? hk)

theorem isEol_eq_false_of_matchMakeup {c : Color} {v : BitVec 14} {l q : Nat} (h : matchMakeup c v l = some q) :
    isEol v l = false := by
  obtain ⟨k, hk, hmatch⟩ := matchMakeup_eq_some_iff.1 h
  obtain ⟨j, hj, -⟩ := lutMakeup?_eq_some_iff.1 hk
  refine isEol_eq_false_of_matchesAcc ?_ hmatch
  rintro rfl
  exact eolCode_notMem_makeupTable c (List.mem_of_getElem? hj)

end Sys2Proof

namespace Sys2Proof.Machine

-- ## A run and its transition (44_decoder.md R106 to R109)

theorem emitRun_of_fits {n : Nat} {s : State} (h : Config.within (s.nwPos + n) s.cap.maxRowBits = true) (c : Color)
    (st : DecState) : emitRun c n st s = .goes (toDecState st (nwPut c n s)) := by
  rw [emitRun, nwWriteRun, if_pos (show nwFits n s = true from h)]

/-- A run and its transition change the decoder state, the accumulator, `nw_pos` and PIX only. -/
theorem toDecState_nwPut_eq (st : DecState) (c : Color) (n : Nat) (s : State) :
    toDecState st (nwPut c n s) = { s with
      decState := st, curVal := 0, curLen := 0, nwPos := s.nwPos + n, pix := (nwPut c n s).pix } := by
  rw [nwPut_eq]
  rfl

/-- The pixels of the run have its colour, all others are as before. -/
theorem pixBit_toDecState_nwPut (st : DecState) (c : Color) (n : Nat) (s : State) (p : Nat) :
    pixBit (toDecState st (nwPut c n s)) p =
      if s.nwPos ≤ p ∧ p < s.nwPos + n then decide (c = .black) else pixBit s p := by
  rw [← Color.bit_eq_decide, ← pixBit_nwPut]
  rfl

-- ## DEC.BIT (44_decoder.md R104)

theorem exec_decBit (b : Bool) (s : State) : exec (.decBit b) s = .next (decBit b s).state := rfl

theorem exec_decEnd (s : State) : exec .decEnd s = .next (decEnd s).state := rfl

/-- The fourteenth bit raises FormatError (44_decoder.md R111). -/
theorem decBit_of_full {s : State} (hlen : s.curLen = 13) (b : Bool) :
    decBit b s = .ends (raiseException .formatError .decodeRow s.trPos s) := by
  have hgt : (shiftIn b s).curLen > Config.maxCodeLen := by simp [hlen, Config.maxCodeLen]
  rw [decBit, afterShift, if_pos hgt, decRaise, raiseException_shiftIn]
  rfl

section
variable {b : Bool} {s : State} {v : BitVec 14} {l : Nat}

theorem afterShift_of_eol (hlen : s.curLen ≤ 13) (h : isEol s.curVal s.curLen = true) :
    afterShift s = emitEol s := by
  rw [afterShift, if_neg (by simpa [Config.maxCodeLen] using hlen), if_pos h]

theorem afterShift_of_not_eol (hlen : s.curLen ≤ 13) (h : isEol s.curVal s.curLen = false) :
    afterShift s = matchCodes s := by
  rw [afterShift, if_neg (by simpa [Config.maxCodeLen] using hlen), h]
  rfl

theorem matchCodes_of_makeup {q : Nat} (hexp : s.decState.expecting = true)
    (h : matchMakeup s.decState.color s.curVal s.curLen = some q) :
    matchCodes s = emitMakeup s.decState.color q s := by
  rw [matchCodes, if_pos hexp, h]

/-- Where no makeup code is tried or matched, a terminating code is, or nothing. -/
theorem matchCodes_of_no_makeup
    (h : s.decState.expecting = true → matchMakeup s.decState.color s.curVal s.curLen = none) :
    matchCodes s =
      ((matchTerm s.decState.color s.curVal s.curLen).map (emitTerm s.decState.color · s)).getD (.goes s) := by
  have hnone : (if s.decState.expecting then matchMakeup s.decState.color s.curVal s.curLen else none) = none := by
    split
    next hexp => exact h hexp
    next => rfl
  rw [matchCodes, hnone]
  cases matchTerm s.decState.color s.curVal s.curLen <;> rfl

theorem decBit_of_eol (hlen : s.curLen + 1 ≤ 13) (h : isEol (shiftBit s.curVal b) (s.curLen + 1) = true) :
    decBit b s = emitEol s :=
  afterShift_of_eol (s := shiftIn b s) hlen h

/-- A makeup code is matched in an Expecting state (44_decoder.md R106, R108). -/
theorem decBit_of_makeup {q : Nat} (hlen : s.curLen + 1 ≤ 13) (hexp : s.decState.expecting = true)
    (h : matchMakeup s.decState.color (shiftBit s.curVal b) (s.curLen + 1) = some q) :
    decBit b s = emitMakeup s.decState.color q s := by
  calc decBit b s
      = matchCodes (shiftIn b s) := afterShift_of_not_eol hlen (isEol_eq_false_of_matchMakeup h)
    _ = emitMakeup s.decState.color q (shiftIn b s) := matchCodes_of_makeup (s := shiftIn b s) hexp h
    _ = emitMakeup s.decState.color q s := emitRun_withAcc ..

/-- A terminating code is matched where no makeup code is (44_decoder.md R107, R109). -/
theorem decBit_of_term {n : Nat} (hlen : s.curLen + 1 ≤ 13)
    (hno : s.decState.expecting = true →
      matchMakeup s.decState.color (shiftBit s.curVal b) (s.curLen + 1) = none)
    (h : matchTerm s.decState.color (shiftBit s.curVal b) (s.curLen + 1) = some n) :
    decBit b s = emitTerm s.decState.color n s := by
  calc decBit b s
      = matchCodes (shiftIn b s) := afterShift_of_not_eol hlen (isEol_eq_false_of_matchTerm h)
    _ = emitTerm s.decState.color n (shiftIn b s) := by
      rw [matchCodes_of_no_makeup (s := shiftIn b s) hno]
      simp [h]
    _ = emitTerm s.decState.color n s := emitRun_withAcc ..

/-- A bit that completes nothing is kept (44_decoder.md R110, R112). -/
theorem decBit_of_no_match (hlen : s.curLen + 1 ≤ 13)
    (heol : isEol (shiftBit s.curVal b) (s.curLen + 1) = false)
    (hno : s.decState.expecting = true →
      matchMakeup s.decState.color (shiftBit s.curVal b) (s.curLen + 1) = none)
    (h : matchTerm s.decState.color (shiftBit s.curVal b) (s.curLen + 1) = none) :
    decBit b s = .goes (shiftIn b s) := by
  rw [decBit, afterShift_of_not_eol (s := shiftIn b s) hlen heol, matchCodes_of_no_makeup (s := shiftIn b s) hno]
  simp [h]

end

-- ## DEC.END (44_decoder.md R115, R116)

theorem decEnd_eq (s : State) :
    decEnd s = if s.strict && s.nwPos != s.expWidth then decRaise .widthMismatch s.trPos (closeRow s)
      else .goes (closeRow s) := by
  show (if (closeRow s).strict && (closeRow s).outLen != (closeRow s).expWidth
    then decRaise .widthMismatch (closeRow s).trPos (closeRow s) else .goes (closeRow s)) = _
  rw [closeRow_eq]
  rfl

/-- The width is not compared, or it is the expected one. -/
theorem decEnd_of_accepted {s : State} (h : s.ctrl = 0 ∨ s.nwPos = s.expWidth) : decEnd s = .goes (closeRow s) := by
  rw [decEnd_eq]
  rcases h with hctrl | hwidth
  · simp [State.strict, hctrl]
  · simp [hwidth]

theorem decEnd_of_mismatch {s : State} (hctrl : s.ctrl = 1) (hwidth : s.nwPos ≠ s.expWidth) :
    decEnd s = .ends (reportException .widthMismatch s.trPos (closeRow s)) := by
  rw [decEnd_eq, if_pos (by simp [State.strict, hctrl, hwidth]), decRaise, raiseException_widthMismatch]

theorem decEnd_pix (s : State) : (decEnd s).state.pix = (closeRow s).pix := by
  rw [decEnd_eq]
  split
  · rw [decRaise, raiseException_widthMismatch]
    rfl
  · rfl

/-- The closed row: the bits of its last byte beyond it are 0 (41_bit_accessors.md R86). -/
theorem pixBit_of_pix_eq_closeRow {s t : State} (h : t.pix = (closeRow s).pix) (p : Nat) :
    pixBit t p = if s.nwPos ≤ p ∧ p < 8 * ceil8 s.nwPos then false else pixBit s p := by
  have hpad := pixBit_padPix (padCount s.nwPos) s.nwPos s p
  rw [add_padCount] at hpad
  rw [pixBit, pixByte, h]
  exact hpad

/-- However DECODE_ROW ends, it has ended, with the width in OUT_LEN and the row closed. -/
theorem finishDecode_results (s : State) :
    (finishDecode s).busy = none ∧ (finishDecode s).outLen = s.nwPos ∧ (finishDecode s).pix = (closeRow s).pix := by
  rw [finishDecode_eq]
  split
  · rw [raiseException_widthMismatch]
    exact ⟨rfl, rfl, rfl⟩
  · exact ⟨rfl, rfl, rfl⟩

theorem finishDecode_of_accepted {s : State} (h : s.ctrl = 0 ∨ s.nwPos = s.expWidth) :
    finishDecode s = endNormally (closeRow s) := by
  rw [finishDecode, decEnd_of_accepted h]

theorem finishDecode_of_mismatch {s : State} (hctrl : s.ctrl = 1) (hwidth : s.nwPos ≠ s.expWidth) :
    finishDecode s = reportException .widthMismatch s.trPos (closeRow s) := by
  rw [finishDecode, decEnd_of_mismatch hctrl hwidth]

-- ## The codes of the stream, each executed where it is tried (44_decoder.md R105 to R109)

/-- A code of a run that is tried and whose run fits moves the reader behind its bits and takes its transition. -/
theorem exec_code_of_fits {i : Instr} {r : CodeRef} {c : Color} {n : Nat} {st : DecState} {s : State}
    (hi : codeRefOf i = some r) (hcode : ∀ p, r ≠ .reserved p) (hrun : transition r = emitRun c n st)
    (hempty : atBoundary s = true) (hlegal : r.legalIn s.decState = true) (hroom : s.trPos + r.code.len ≤ s.trLim)
    (hfits : Config.within (s.nwPos + n) s.cap.maxRowBits = true) :
    exec i s = .next (toDecState st (nwPut c n (trAdvance r.code.len s))) := by
  rw [exec_eq_takeString hi, takeString_eq_transition hcode hempty hlegal hroom, hrun,
    emitRun_of_fits (s := trAdvance r.code.len s) hfits, DecRun.state_goes]

/-- At a boundary a transition finds the accumulator empty and leaves it so. -/
theorem toDecState_of_empty {s : State} (hval : s.curVal = 0) (hlen : s.curLen = 0) (st : DecState) :
    toDecState st s = { s with decState := st } := by
  simp only [toDecState, clearAcc, ← hval, ← hlen]

/-- The transition of a code read at a boundary, against the state before the code. -/
theorem toDecState_nwPut_trAdvance_eq {s : State} (hval : s.curVal = 0) (hlen : s.curLen = 0) (st : DecState)
    (c : Color) (n k : Nat) :
    toDecState st (nwPut c n (trAdvance k s)) = { s with
      decState := st, trPos := s.trPos + k, nwPos := s.nwPos + n, pix := (nwPut c n (trAdvance k s)).pix } := by
  rw [toDecState_nwPut_eq]
  simp only [trAdvance, hval, hlen]

end Sys2Proof.Machine
end

section
/-! SUPPORT. The bits DECODE_ROW has left to read, and the step that reads an instruction from them (44_decoder.md
R117). -/

namespace Sys2Proof.Machine

/-- The bits of the input that the reader has not read yet (41_bit_accessors.md R81, R83). -/
def bitsLeft (s : State) : List Bool := (List.range (s.trLim - s.trPos)).map fun j => codeBit s (s.trPos + j)

theorem length_bitsLeft (s : State) : (bitsLeft s).length = s.trLim - s.trPos := by
  rw [bitsLeft, List.length_map, List.length_range]

/-- Bits that stand in CODE from `tr_pos` up to the limit are the bits left. -/
theorem bitsLeft_eq {s : State} {bs : List Bool} (hlen : s.trPos + bs.length = s.trLim)
    (hbits : ∀ j, j < bs.length → codeBit s (s.trPos + j) = bs.getD j false) : bitsLeft s = bs := by
  refine List.ext_getElem (by rw [length_bitsLeft]; omega) fun j _ hj => ?_
  rw [← List.getD_eq_getElem bs false hj, ← hbits j hj]
  simp only [bitsLeft, List.getElem_map, List.getElem_range]

theorem streamBits_eq_map (s : State) (pos k : Nat) :
    streamBits s pos k = (List.range (min k (s.trLim - pos))).map fun j => codeBit s (pos + j) := by
  induction k generalizing pos with
  | zero => simp [streamBits]
  | succ k ih =>
    rw [streamBits]
    split
    next hin =>
      have hmin : min (k + 1) (s.trLim - pos) = min k (s.trLim - (pos + 1)) + 1 := by omega
      rw [ih, hmin, List.range_succ_eq_map, List.map_cons, List.map_map]
      simp [Function.comp_def, Nat.add_assoc, Nat.add_comm 1]
    next hout =>
      have hmin : min (k + 1) (s.trLim - pos) = 0 := by omega
      rw [hmin]
      rfl

/-- What the decoder looks at is the first of the bits left. -/
theorem streamBits_eq_take (s : State) (k : Nat) : streamBits s s.trPos k = (bitsLeft s).take k := by
  rw [streamBits_eq_map, bitsLeft, ← List.map_take, List.take_range]

theorem bitsLeft_trAdvance (k : Nat) (s : State) : bitsLeft (trAdvance k s) = (bitsLeft s).drop k := by
  refine List.ext_getElem ?_ fun j _ _ => ?_
  · rw [List.length_drop, length_bitsLeft, length_bitsLeft, trAdvance_trLim, trAdvance_trPos]
    omega
  · simp only [bitsLeft, List.getElem_map, List.getElem_range, List.getElem_drop, trAdvance_trPos, Nat.add_assoc]
    rfl

theorem step_of_next_action {s : State} {a : HostAction} {rest : List HostAction} (hidle : s.busy = none)
    (hnext : s.pending = a :: rest) : step s = exec a.instr { s with pending := rest } := by
  have hturn : step s = hostTurn s := by rw [step, hidle]
  rw [hturn, hostTurn, hnext]

theorem streamBits_of_exhausted {s : State} {pos : Nat} (h : ¬ pos < s.trLim) (k : Nat) : streamBits s pos k = [] := by
  cases k with
  | zero => rfl
  | succ k => rw [streamBits, if_neg h]

/-- At a boundary the step of DECODE_ROW is the instruction that the next bits are. -/
theorem step_of_nextInstr {s : State} {i : Instr} {len : Nat} (hbusy : s.busy = some .decodeRow)
    (hempty : atBoundary s = true) (h : nextInstr s = .instr i len) : step s = exec i s := by
  have hin : s.trPos < s.trLim := by
    by_contra hout
    rw [nextInstr, streamBits_of_exhausted hout] at h
    cases h
  rw [step, hbusy]
  show decodeTurn s = _
  rw [decodeTurn, if_neg hin.ne, if_pos hin, if_pos hempty, h]

end Sys2Proof.Machine
end

section
/-! PROOFS. The statements of 44_decoder.md about single instructions and single steps. -/

namespace Sys2Proof.Machine

/-- Settles O23: DEC.BIT goes by its cases after the shift, and neither of these two writes a run. -/
theorem decBitOnEolAndOnNoMatch : Obligations.DecBitOnEolAndOnNoMatch := by
  refine ⟨fun s => rfl, ?_⟩
  rintro b s v l hv rfl hlen
  obtain rfl : shiftBit s.curVal b = v := (shiftBit_eq_ofNat _ _).trans hv.symm
  refine ⟨fun hone h12 => ?_, fun heol hno hterm => ?_⟩
  · rw [exec_decBit, decBit_of_eol hlen ((isEol_iff _ _).2 ⟨h12, hone⟩)]
    rfl
  · have hnoEol : isEol (shiftBit s.curVal b) (s.curLen + 1) = false :=
      Bool.eq_false_iff.2 fun h => heol ((isEol_iff _ _).1 h).symm
    rw [exec_decBit, decBit_of_no_match hlen hnoEol hno hterm]
    rfl

/-- Settles O24: a matched pair is not EOL, and a run that fits is written whole. -/
theorem decBitEmitsMatchedRuns : Obligations.DecBitEmitsMatchedRuns := by
  rintro b s v l hv rfl hlen
  obtain rfl : shiftBit s.curVal b = v := (shiftBit_eq_ofNat _ _).trans hv.symm
  refine ⟨fun q hexp hmatch hfits => ?_, fun n hno hmatch hfits => ?_⟩
  · refine ⟨toDecState (.makeupSeen s.decState.color) (nwPut s.decState.color q s), ?_, ?_,
      pixBit_toDecState_nwPut _ _ q s⟩
    · rw [exec_decBit, decBit_of_makeup hlen hexp hmatch, emitMakeup, emitRun_of_fits hfits, DecRun.state_goes]
    · rw [← DecState.makeupSeen_eq_ite]
      exact toDecState_nwPut_eq ..
  · refine ⟨toDecState (.expect s.decState.color.other) (nwPut s.decState.color n s), ?_, ?_,
      pixBit_toDecState_nwPut _ _ n s⟩
    · rw [exec_decBit, decBit_of_term hlen hno hmatch, emitTerm, emitRun_of_fits hfits, DecRun.state_goes]
    · rw [← DecState.expect_other_eq_ite]
      exact toDecState_nwPut_eq ..

/-- Settles O27: both states of a colour try its terminating codes. -/
theorem terminatingCodeEndsARun : Obligations.TerminatingCodeEndsARun := by
  intro i c n s hi hwhite hblack hval hlen hroom hfits
  have hlegal : (CodeRef.term c n).legalIn s.decState = true := by
    cases c with
    | white => rcases hwhite rfl with h | h <;> rw [h] <;> rfl
    | black => rcases hblack rfl with h | h <;> rw [h] <;> rfl
  have hexec := exec_code_of_fits (st := .expect c.other) hi nofun rfl ((atBoundary_iff s).2 ⟨hlen, hval⟩) hlegal
    hroom hfits
  refine ⟨_, hexec, ?_, pixBit_toDecState_nwPut _ c n (trAdvance (termCode c n).len s)⟩
  rw [← DecState.expect_other_eq_ite]
  exact toDecState_nwPut_trAdvance_eq hval hlen ..

/-- Settles O28: the Expecting state of a colour tries its makeup codes. -/
theorem makeupCodeOpensARun : Obligations.MakeupCodeOpensARun := by
  intro i c q s hi hst hval hlen hroom hfits
  rw [← DecState.expect_eq_ite] at hst
  have hlegal : (CodeRef.makeup c q).legalIn s.decState = true := by
    rw [hst]
    cases c <;> rfl
  have hexec := exec_code_of_fits (st := .makeupSeen c) hi nofun rfl ((atBoundary_iff s).2 ⟨hlen, hval⟩) hlegal
    hroom hfits
  refine ⟨_, hexec, ?_, pixBit_toDecState_nwPut _ c q (trAdvance (makeupCode c q).len s)⟩
  rw [← DecState.makeupSeen_eq_ite]
  exact toDecState_nwPut_trAdvance_eq hval hlen ..

/-- Settles O31: the row is closed in either case, and the width is compared in strict mode only. -/
theorem decEndReportsTheWidth : Obligations.DecEndReportsTheWidth := by
  intro s _ _
  refine ⟨(decEnd s).state, exec_decEnd s, pixBit_of_pix_eq_closeRow (decEnd_pix s), fun haccepted => ?_,
    fun hctrl hwidth => ?_⟩
  · rw [decEnd_of_accepted haccepted]
    exact closeRow_eq s
  · rw [decEnd_of_mismatch hctrl hwidth, ← withErr_withDone s.status, closeRow_eq]
    rfl

/-- Settles O42: the end of the operation is DEC.END, and the normal end unless that raised. -/
theorem endOfInputEndsTheOperation : Obligations.EndOfInputEndsTheOperation := by
  intro s hbusy hend
  obtain ⟨hidle, hout, hpix⟩ := finishDecode_results s
  obtain ⟨hctrl, hin, hexp, -, hcode⟩ := (finishDecode_operationStep s).inputs
  refine ⟨finishDecode s, step_of_input_ended hbusy hend, hidle, hout, pixBit_of_pix_eq_closeRow hpix,
    fun haccepted => ?_, fun hstrict hwidth => ?_, hcode, hin, hctrl, hexp, finishDecode_pending s⟩
  · rw [finishDecode_of_accepted haccepted]
    exact ⟨withDone_withoutErr _, rfl, rfl⟩
  · rw [finishDecode_of_mismatch hstrict hwidth]
    exact ⟨withErr_withDone _, rfl, rfl⟩

/-- Settles O25: the fourteenth bit is one more than the longest code has. -/
theorem fourteenthBitRaisesFormatError : Obligations.FourteenthBitRaisesFormatError := by
  intro b s hlen
  refine ⟨raiseException .formatError .decodeRow s.trPos s, ?_, ?_, fun a => rfl⟩
  · rw [exec_decBit, decBit_of_full hlen]
    rfl
  · rw [← withErr_withDone s.status]
    rfl

/-- Settles O29: every state tries EOL, and its transition writes no pixel. -/
theorem eolResynchronisesAndKeepsPixels : Obligations.EolResynchronisesAndKeepsPixels := by
  intro s hval hlen hroom
  have hexec := takeString_eq_transition (r := .eol) nofun ((atBoundary_iff s).2 ⟨hlen, hval⟩) rfl hroom
  rw [exec_eq_takeString (r := .eol) rfl, hexec]
  exact congrArg Host.Outcome.next (toDecState_of_empty (s := trAdvance 12 s) hval hlen .expectingWhiteRun)

/-- Settles O41: the bits from `tr_pos` on, as many as the decoder looks at, are those that the step decodes. -/
theorem stepRunsTheDecodedInstruction : Obligations.StepRunsTheDecodedInstruction := by
  refine ⟨fun s i len hbusy hval hlen _ hread => ?_, fun s hbusy hin => ?_, fun s a rest hidle hnext => ?_,
    fun s => step_of_waiting⟩
  · refine step_of_nextInstr hbusy ((atBoundary_iff s).2 ⟨hlen, hval⟩) (len := len) ?_
    rw [nextInstr, streamBits_eq_map]
    exact hread
  · rw [step_of_encodeRow hbusy, encodeTurn, if_neg hin.ne, if_pos hin]
    rfl
  · exact step_of_next_action hidle hnext

end Sys2Proof.Machine
end

section
/-! SUPPORT. Runs of the machine: how they are put together, and that no step writes the parameters
(assumption log 2). -/

namespace Sys2Proof.Machine

theorem run_add {M : Host.Core} {j k : Nat} {x y z : M.State} (h : M.run j x = .next y) (h' : M.run k y = .next z) :
    M.run (j + k) x = .next z := by
  induction j generalizing x with
  | zero =>
    cases h
    rwa [Nat.zero_add]
  | succ j ih =>
    obtain ⟨w, hstep, hrest⟩ := step_of_run_succ h
    rw [Nat.add_right_comm, run_succ_of_step hstep]
    exact ih hrest

/-- The machine comes from `s` to `t` in some number of steps. -/
def Reaches (s t : State) : Prop := ∃ k, Host.Core.run core k s = .next t

theorem Reaches.refl (s : State) : Reaches s s := ⟨0, rfl⟩

theorem Reaches.of_step {s t : State} (h : step s = .next t) : Reaches s t := ⟨1, run_succ_of_step (M := core) h 0⟩

theorem Reaches.trans {s t u : State} (h : Reaches s t) (h' : Reaches t u) : Reaches s u := by
  obtain ⟨j, hj⟩ := h
  obtain ⟨k, hk⟩ := h'
  exact ⟨j + k, run_add hj hk⟩

theorem raiseException_cap (x : Exc) (op : Operation) (p : Nat) (s : State) :
    (raiseException x op p s).cap = s.cap := by
  rw [raiseException_eq]

theorem startEncode_cap (s : State) : (startEncode s).cap = s.cap := by
  unfold startEncode
  split
  · rfl
  · exact raiseException_cap ..

theorem startDecode_cap (s : State) : (startDecode s).cap = s.cap := by
  unfold startDecode
  split
  · rfl
  · exact raiseException_cap ..

theorem HostEffect.cap_eq {s t : State} {a : HostAction} (h : HostEffect s a t) : t.cap = s.cap := by
  cases h with
  | returns => rfl
  | sets => rfl
  | writes => rw [writeBytes_eq]
  | encodes => exact startEncode_cap s
  | decodes => exact startDecode_cap s
  | resets => rfl

theorem step_cap {s t : State} (h : step s = .next t) : t.cap = s.cap := by
  cases hbusy : s.busy with
  | some op =>
    obtain ⟨-, -, -, hcap, -⟩ := (step_operationStep hbusy h).inputs
    exact hcap
  | none =>
    rcases step_of_idle hbusy h with rfl | ⟨a, rest, -, hact⟩
    · rfl
    · exact hact.cap_eq

theorem run_cap {k : Nat} {s t : State} (h : Host.Core.run core k s = .next t) : t.cap = s.cap := by
  induction k generalizing s with
  | zero =>
    cases h
    rfl
  | succ k ih =>
    obtain ⟨u, hstep, hrest⟩ := step_of_run_succ h
    exact (ih hrest).trans (step_cap hstep)

end Sys2Proof.Machine
end

section
/-! SUPPORT. DECODE_ROW on the code bits of a row: each run is read as the run it is, and the pad bits behind the last
one are no code (44_decoder.md R117, R120). -/

namespace Sys2Proof

/-- The 0 bits that fill a byte are no string yet. -/
theorem decodeBits_zeros (c : Color) {k : Nat} (h : k < 8) :
    decodeBits (.expect c) (List.replicate k false) = .inputEnds := by
  revert k
  cases c <;> decide

/-- No string that a state tries has more bits than the accumulator. -/
theorem length_bits_le {st : DecState} {r : CodeRef} {i : Instr} (hi : codeInstr r = some i)
    (hlegal : r.legalIn st = true) : r.code.bits.length ≤ 13 := by
  obtain ⟨_, _, _, _, hle, _⟩ := decodeFrom_sound (decodeBits_bits_expect hi (legalIn_expect hlegal))
  exact hle

/-- Bits that end too soon: none of them completes an instruction. -/
theorem decodeFrom_cons_eq_inputEnds {st : DecState} {v : BitVec 14} {l : Nat} {b : Bool} {bs : List Bool}
    (h : decodeFrom st v l (b :: bs) = .inputEnds) :
    l + 1 ≤ 13 ∧ instrAt st (shiftBit v b) (l + 1) = none ∧
      decodeFrom st (shiftBit v b) (l + 1) bs = .inputEnds := by
  rw [decodeFrom] at h
  split at h
  next => cases h
  next hlen =>
    split at h
    next => cases h
    next hnone => exact ⟨by simpa [Config.maxCodeLen] using hlen, hnone, h⟩

end Sys2Proof

namespace Sys2Proof.Machine

-- ## The row and its runs

theorem rowPixels_nwPut (c : Color) (n : Nat) (s : State) :
    rowPixels (nwPut c n s) (s.nwPos + n) = rowPixels s s.nwPos ++ List.replicate n c.bit := by
  refine List.ext_getElem (by simp [rowPixels]) fun p hp _ => ?_
  have hlt : p < s.nwPos + n := by simpa [rowPixels] using hp
  simp only [rowPixels, List.getElem_map, List.getElem_range, List.getElem_append, List.length_map, List.length_range,
    List.getElem_replicate, pixBit_nwPut]
  rcases Nat.lt_or_ge p s.nwPos with hold | hnew
  · rw [if_neg (by omega), dif_pos hold]
  · rw [if_pos ⟨hnew, hlt⟩, dif_neg (Nat.not_lt.2 hnew)]

theorem length_rowPixels (s : State) (w : Nat) : (rowPixels s w).length = w := by
  rw [rowPixels, List.length_map, List.length_range]

theorem pixBit_eq_of_rowPixels_eq {s t : State} {w p : Nat} (h : rowPixels t w = rowPixels s w) (hp : p < w) :
    pixBit t p = pixBit s p :=
  List.map_inj_left.1 h p (List.mem_range.2 hp)

/-- The maximal runs of a row have its pixels. -/
theorem pixelsOf_maximalRuns (row : List Bool) : pixelsOf (maximalRuns row) = row := by
  have hpieces : ∀ run ∈ row.splitBy (· == ·),
      List.replicate run.length (colorOf (run.headD Config.whiteBit)).bit = run := by
    intro run hrun
    obtain ⟨n, b, rfl⟩ := eq_replicate_of_mem_splitBy hrun
    rw [List.length_replicate, show (List.replicate (n + 1) b).headD Config.whiteBit = b from rfl, bit_colorOf]
  calc pixelsOf (maximalRuns row)
      = ((row.splitBy (· == ·)).map fun run =>
          List.replicate run.length (colorOf (run.headD Config.whiteBit)).bit).flatten := by
        rw [pixelsOf, maximalRuns, List.flatMap_map, List.flatMap_def]
    _ = (row.splitBy (· == ·)).flatten := by rw [List.map_congr_left hpieces, List.map_id']
    _ = row := List.flatten_splitBy ..

theorem pixelsOf_runsOf (row : List Bool) : pixelsOf (runsOf row) = row := by
  match row with
  | [] => rfl
  | false :: row => rw [runsOf_white, pixelsOf_maximalRuns]
  | true :: row => rw [runsOf_black, pixelsOf_cons, List.replicate_zero, List.nil_append, pixelsOf_maximalRuns]

/-- A bound on the maximal runs is one on the runs of R92: the White run in front of a Black one is empty. -/
theorem length_le_of_mem_runsOf {row : List Bool} {m : Nat} (hmax : ∀ run ∈ maximalRuns row, run.2 ≤ m) :
    ∀ run ∈ runsOf row, run.2 ≤ m := by
  match row with
  | [] => nofun
  | false :: row => rwa [runsOf_white]
  | true :: row =>
    rw [runsOf_black]
    exact List.forall_mem_cons.2 ⟨Nat.zero_le m, hmax⟩

-- ## Bits that end within a code (44_decoder.md R115)

/-- Where the input ends before an instruction is complete, the loop takes all of it. -/
theorem readOn_of_inputEnds {k : Nat} {s : State}
    (h : decodeFrom s.decState s.curVal s.curLen (streamBits s s.trPos k) = .inputEnds) :
    ∃ v l, readOn k s = .goes (withAcc v l (trAdvance (streamBits s s.trPos k).length s)) := by
  induction k generalizing s with
  | zero => exact ⟨s.curVal, s.curLen, rfl⟩
  | succ k ih =>
    by_cases hin : s.trPos < s.trLim
    · have hbits : streamBits s s.trPos (k + 1) = codeBit s s.trPos :: streamBits s (s.trPos + 1) k := by
        rw [streamBits, if_pos hin]
      rw [hbits] at h ⊢
      obtain ⟨hlen, hnone, hrest⟩ := decodeFrom_cons_eq_inputEnds h
      rw [← streamBits_shiftIn_trAdvance (codeBit s s.trPos) 1] at hrest ⊢
      obtain ⟨v, l, hread⟩ := ih (s := shiftIn (codeBit s s.trPos) (trAdvance 1 s)) hrest
      rw [withAcc_trAdvance_shiftIn] at hread
      refine ⟨v, l, ?_⟩
      rw [readOn_succ hin, decBit_of_instrAt_eq_none hlen hnone, goOn_goes_of_curLen_ne_zero (Nat.succ_ne_zero _)]
      exact hread
    · rw [streamBits_of_exhausted hin, readOn_of_exhausted hin]
      exact ⟨s.curVal, s.curLen, rfl⟩

-- ## DECODE_ROW between two codes

/-- DECODE_ROW runs, without STRICT, at a code boundary in a decoder state, with the bits `left` to read and the pixels
`row` written; PIX has `bound` bits. -/
structure Decodes (bound : Option Nat) (st : DecState) (left row : List Bool) (t : State) : Prop where
  busy : t.busy = some .decodeRow
  pending : t.pending = []
  lenient : t.ctrl = 0
  rowBound : t.cap.maxRowBits = bound
  decState : t.decState = st
  empty : atBoundary t = true
  trPos_le : t.trPos ≤ t.trLim
  left : bitsLeft t = left
  row : rowPixels t t.nwPos = row

namespace Decodes

variable {bound : Option Nat} {st : DecState} {left more row : List Bool} {t : State} {c : Color}

theorem nwPos_eq (h : Decodes bound st left row t) : t.nwPos = row.length := by rw [← h.row, length_rowPixels]

theorem length_left (h : Decodes bound st left row t) : t.trPos + left.length = t.trLim := by
  have hle := h.trPos_le
  rw [← h.left, length_bitsLeft]
  omega

theorem nextInstr_eq {r : CodeRef} {i : Instr} (h : Decodes bound st (r.code.bits ++ more) row t)
    (hi : codeInstr r = some i) (hlegal : r.legalIn st = true) : nextInstr t = .instr i r.code.len := by
  have hlen : r.code.bits.length ≤ Config.maxCodeLen + 1 := Nat.le_succ_of_le (length_bits_le hi hlegal)
  rw [nextInstr, h.decState, streamBits_eq_take, h.left, List.take_append, List.take_of_length_le hlen]
  exact decodeBits_bits_append hi hlegal _

/-- A code of a run that the state tries is read in one step, and its pixels are written. -/
theorem read_code {r : CodeRef} {i : Instr} {n : Nat} {st' : DecState}
    (h : Decodes bound st (r.code.bits ++ more) row t) (hi : codeInstr r = some i) (hcode : ∀ p, r ≠ .reserved p)
    (hrun : transition r = emitRun c n st') (hlegal : r.legalIn st = true)
    (hfits : Config.within (row.length + n) bound = true) :
    ∃ t', step t = .next t' ∧ Decodes bound st' more (row ++ List.replicate n c.bit) t' := by
  have hleft := h.length_left
  rw [List.length_append, Code.length_bits] at hleft
  have hexec := exec_code_of_fits (codeRefOf_codeInstr hi) hcode hrun h.empty (h.decState ▸ hlegal) (by omega)
    (by rw [h.nwPos_eq, h.rowBound]; exact hfits)
  refine ⟨_, (step_of_nextInstr h.busy h.empty (h.nextInstr_eq hi hlegal)).trans hexec, ?_⟩
  rw [toDecState_nwPut_eq]
  exact {
    busy := h.busy, pending := h.pending, lenient := h.lenient, rowBound := h.rowBound, decState := rfl, empty := rfl
    trPos_le := show t.trPos + r.code.len ≤ t.trLim by omega
    left := by
      show bitsLeft (trAdvance r.code.len t) = more
      rw [bitsLeft_trAdvance, h.left, ← Code.length_bits, List.drop_left]
    row := by
      show rowPixels (nwPut c n (trAdvance r.code.len t)) ((trAdvance r.code.len t).nwPos + n) = _
      rw [rowPixels_nwPut, ← h.row]
      rfl }

theorem read_term {n : Nat} (h : Decodes bound st ((termCode c n).bits ++ more) row t) (hc : st.color = c)
    (hn : n ≤ 63) (hfits : Config.within (row.length + n) bound = true) :
    ∃ t', step t = .next t' ∧ Decodes bound (.expect c.other) more (row ++ List.replicate n c.bit) t' := by
  obtain ⟨i, hi⟩ := Option.isSome_iff_exists.1 (codeInstr_term_isSome (c := c) (Nat.lt_succ_of_le hn))
  exact h.read_code (r := .term c n) hi nofun rfl (by simp [CodeRef.legalIn, hc]) hfits

theorem read_makeup {q : Nat} (h : Decodes bound (.expect c) ((makeupCode c q).bits ++ more) row t)
    (hq : isQuantum q = true) (hfits : Config.within (row.length + q) bound = true) :
    ∃ t', step t = .next t' ∧ Decodes bound (.makeupSeen c) more (row ++ List.replicate q c.bit) t' := by
  obtain ⟨j, hj, rfl⟩ := (isQuantum_iff q).1 hq
  obtain ⟨i, hi⟩ := Option.isSome_iff_exists.1 (codeInstr_makeup_isSome (c := c) hj)
  exact h.read_code (r := .makeup c _) hi nofun rfl (by cases c <;> rfl) hfits

/-- The codes of a run that has one makeup code at most are read as the run (43_encoder.md R97). -/
theorem read_run {n : Nat} (h : Decodes bound (.expect c) (runBits c n ++ more) row t) (hn : n ≤ 2623)
    (hfits : Config.within (row.length + n) bound = true) :
    ∃ t', Reaches t t' ∧ Decodes bound (.expect c.other) more (row ++ List.replicate n c.bit) t' := by
  rcases Nat.lt_or_ge 63 n with hlong | hshort
  · have hle := maxqLe_le n
    have hrest : n - maxqLe n ≤ 63 := by
      rw [maxqLe_eq]
      omega
    rw [runBits, runCodes_long hlong, runCodes_short hrest, List.flatMap_cons, List.flatMap_singleton,
      List.append_assoc] at h
    obtain ⟨t₁, hstep₁, h₁⟩ := h.read_makeup (isQuantum_maxqLe hlong) (within_of_le (by omega) hfits)
    have hfits₁ : Config.within ((row ++ List.replicate (maxqLe n) c.bit).length + (n - maxqLe n)) bound = true := by
      rw [List.length_append, List.length_replicate, Nat.add_assoc, Nat.add_sub_cancel' hle]
      exact hfits
    obtain ⟨t₂, hstep₂, h₂⟩ := h₁.read_term (by cases c <;> rfl) hrest hfits₁
    rw [List.append_assoc, List.replicate_append_replicate, Nat.add_sub_cancel' hle] at h₂
    exact ⟨t₂, (Reaches.of_step hstep₁).trans (.of_step hstep₂), h₂⟩
  · rw [runBits, runCodes_short hshort, List.flatMap_singleton] at h
    obtain ⟨t', hstep, h'⟩ := h.read_term (DecState.color_expect c) hshort hfits
    exact ⟨t', .of_step hstep, h'⟩

/-- The code bits of alternating runs are read as these runs. -/
theorem read_runs {runs : List (Color × Nat)} (h : Decodes bound (.expect c) (bitsOfRuns runs ++ more) row t)
    (halt : Alternating runs) (hhead : ∀ run ∈ runs.head?, run.1 = c) (hlen : ∀ run ∈ runs, run.2 ≤ 2623)
    (hfits : Config.within (row.length + (runs.map Prod.snd).sum) bound = true) :
    ∃ d t', Reaches t t' ∧ Decodes bound (.expect d) more (row ++ pixelsOf runs) t' := by
  induction runs generalizing c row t with
  | nil => exact ⟨c, t, .refl t, by simpa [bitsOfRuns] using h⟩
  | cons run rest ih =>
    obtain ⟨c', n⟩ := run
    obtain rfl : c' = c := hhead _ rfl
    obtain ⟨hnext, hrest⟩ := List.isChain_cons.1 halt
    obtain ⟨hn, hlenRest⟩ := List.forall_mem_cons.1 hlen
    rw [List.map_cons, List.sum_cons, ← Nat.add_assoc] at hfits
    rw [bitsOfRuns_cons, List.append_assoc] at h
    obtain ⟨t₁, hreach₁, h₁⟩ := h.read_run hn (within_of_le (Nat.le_add_right _ _) hfits)
    obtain ⟨d, t₂, hreach₂, h₂⟩ := ih h₁ hrest hnext hlenRest
      (by rwa [List.length_append, List.length_replicate])
    rw [List.append_assoc, ← pixelsOf_cons] at h₂
    exact ⟨d, t₂, hreach₁.trans hreach₂, h₂⟩

/-- The pad bits are accumulated up to the end of the input, and match nothing. -/
theorem read_padBits {p : Nat} (h : Decodes bound (.expect c) (padBits p) row t) :
    ∃ v l, Reaches t (withAcc v l (trAdvance (padBits p).length t)) := by
  have hshort : (padBits p).length < 8 := by
    rw [padBits, List.length_replicate, padCount]
    omega
  have hbits : streamBits t t.trPos 14 = padBits p := by
    rw [streamBits_eq_take, h.left, List.take_of_length_le (by omega)]
  by_cases hin : t.trPos < t.trLim
  · obtain ⟨hlen, hval⟩ := (atBoundary_iff t).1 h.empty
    have hends : decodeFrom t.decState t.curVal t.curLen (streamBits t t.trPos 14) = .inputEnds := by
      rw [hbits, hlen, hval, h.decState]
      exact decodeBits_zeros c (by simpa [padBits] using hshort)
    obtain ⟨v, l, hread⟩ := readOn_of_inputEnds hends
    rw [hbits] at hread
    have hstep := stringStepEqualsBitSteps t h.busy hin
    rw [hread] at hstep
    exact ⟨v, l, .of_step hstep⟩
  · have hnone : (padBits p).length = 0 := by
      have hleft := h.length_left
      omega
    rw [hnone]
    exact ⟨t.curVal, t.curLen, .refl t⟩

/-- With only pad bits left, DECODE_ROW ends normally with the pixels written. -/
theorem ends {p : Nat} (h : Decodes bound (.expect c) (padBits p) row t) :
    ∃ e, Reaches t (endNormally (closeRow e)) ∧ e.pending = [] ∧ rowPixels e e.nwPos = row := by
  obtain ⟨v, l, hreach⟩ := h.read_padBits
  generalize he : withAcc v l (trAdvance (padBits p).length t) = e at hreach
  have hend : step e = .next (finishDecode e) := by
    subst he
    exact step_of_input_ended h.busy h.length_left
  rw [finishDecode_of_accepted (.inl (he ▸ h.lenient))] at hend
  exact ⟨e, hreach.trans (.of_step hend), he ▸ h.pending, he ▸ h.row⟩

end Decodes

-- ## The start, behind ENCODE_ROW

/-- The bytes that the code bits of a row take up exist, under the constraint of 00_scope.md R8. -/
theorem within_bytes_of_rowBits {cap : Config.Capacity} {row : List Bool} (hcap : cap.codeHoldsRow = true)
    (hfits : Config.within row.length cap.maxRowBits = true) :
    Config.within (ceil8 (rowBits row).length) cap.maxCodeBytes = true := by
  by_cases hrow : row = []
  · subst hrow
    exact within_zero _
  · obtain ⟨-, hshort⟩ := encodedRowIsShort row hrow
    have hbytes := within_bytes_of_codeHoldsRow hcap (List.length_pos_of_ne_nil hrow) hfits hshort
    cases hbound : cap.maxCodeBytes with
    | none => rfl
    | some m =>
      rw [hbound] at hbytes
      exact decide_eq_true (Nat.le_of_mul_le_mul_left (of_decide_eq_true hbytes) (by decide))

/-- DECODE_ROW, started on code bits that begin CODE and are padded to whole bytes, has them and the pad bits to
read. -/
theorem decodes_startDecode {s : State} {bs : List Bool} (hfits : Config.within s.inLen s.cap.maxCodeBytes = true)
    (hpending : s.pending = []) (hctrl : s.ctrl = 0) (hlen : s.inLen = ceil8 bs.length)
    (hbits : ∀ p, p < 8 * s.inLen → codeBit s p = bs.getD p false) :
    Decodes s.cap.maxRowBits (.expect .white) (bs ++ padBits bs.length) [] (startDecode s) := by
  rw [startDecode_of_fits hfits]
  refine ⟨rfl, hpending, hctrl, rfl, rfl, rfl, Nat.zero_le _, ?_, rfl⟩
  refine bitsLeft_eq ?_ fun j hj => ?_
  · show 0 + (bs ++ padBits bs.length).length = 8 * s.inLen
    rw [length_append_padBits, hlen, Nat.zero_add]
  · rw [length_append_padBits, ← hlen] at hj
    rw [getD_append_padBits, ← hbits j hj]
    show codeBit s (0 + j) = _
    rw [Nat.zero_add]

end Sys2Proof.Machine
end

section
/-! PROOFS. The statement of 44_decoder.md about a row that is encoded and decoded again. -/

namespace Sys2Proof.Machine

/-- Settles O52: ENCODE_ROW leaves the code bits of the row's runs, DECODE_ROW reads these runs one by one, each of one
makeup code at most, and the pixels of the runs are the row. -/
theorem rowsRoundTrip : Obligations.RowsRoundTrip := by
  intro s hs hfits hcap hmax
  obtain ⟨hidle, a, hnext, ha⟩ := hs
  obtain ⟨t, hencode, hidle', -, -, herr, -, hout, hbits, -⟩ :=
    encodeRowWritesTheCodesOfTheRow s a [] hidle hnext ha hfits hcap
  generalize hrow : rowPixels s s.inLen = row at hmax hout hbits
  have hwidth : row.length = s.inLen := by rw [← hrow, length_rowPixels]
  have hcap' : t.cap = s.cap := run_cap hencode
  have hstart : Decodes s.cap.maxRowBits (.expect .white) (bitsOfRuns (runsOf row) ++ padBits (rowBits row).length) []
      (startDecode { t with inLen := t.outLen, ctrl := 0, pending := [] }) := by
    rw [← hcap']
    refine decodes_startDecode (s := { t with inLen := t.outLen, ctrl := 0, pending := [] }) ?_ rfl rfl hout hbits
    show Config.within t.outLen t.cap.maxCodeBytes = true
    rw [hout, hcap']
    exact within_bytes_of_rowBits hcap (hwidth ▸ hfits)
  obtain ⟨c, d, hruns, hread⟩ := hstart.read_runs (alternating_runsOf row) color_of_mem_head?_runsOf
    (length_le_of_mem_runsOf hmax) (by rwa [sum_runsOf, List.length_nil, Nat.zero_add, hwidth])
  rw [List.nil_append, pixelsOf_runsOf] at hread
  obtain ⟨e, hend, hpending, hpixels⟩ := hread.ends
  have hnwPos : e.nwPos = s.inLen := by rw [← hwidth, ← hpixels, length_rowPixels]
  have hfirst : step { t with inLen := t.outLen, ctrl := 0, pending := [.wr 0 1] } = .next _ :=
    AboutToRun.step_decodeRow ⟨hidle', .wr 0 1, rfl, rfl⟩
  obtain ⟨k, hdecode⟩ := (Reaches.of_step hfirst).trans (hruns.trans hend)
  have hclosed := pixBit_of_pix_eq_closeRow (s := e) (t := endNormally (closeRow e)) rfl
  refine ⟨t, endNormally (closeRow e), k, hencode, hidle', herr, hdecode, rfl, ?_, withDone_withoutErr _, rfl, rfl,
    hnwPos, fun p hp => ?_, fun p hlow hhigh => ?_⟩
  · exact (closeRow_pending e).trans hpending
  · rw [hclosed, hnwPos, if_neg (by omega)]
    exact pixBit_eq_of_rowPixels_eq (by rw [hrow, ← hpixels, hnwPos]) hp
  · rw [hclosed, hnwPos]
    exact if_pos ⟨hlow, hhigh⟩

end Sys2Proof.Machine
end

section
/-! SUPPORT. The host's actions as instructions: what each comes to between operations, and which fields it can write
(45_host_commands.md). -/

namespace Sys2Proof.Machine

-- ## The values of the registers (45_host_commands.md R121, R122)

theorem readReg_of_no_register {reg : Nat} (h : 7 < reg) (s : State) : readReg reg s = none := by
  obtain ⟨n, rfl⟩ := Nat.exists_eq_add_of_le' (Nat.succ_le_of_lt h)
  rfl

theorem writeReg_of_no_register {reg : Nat} (h : 7 < reg) (v : Nat) (s : State) : writeReg reg v s = none := by
  obtain ⟨n, rfl⟩ := Nat.exists_eq_add_of_le' (Nat.succ_le_of_lt h)
  rfl

/-- CTRL holds bit 0 of what was written (10_state.md R25). -/
theorem ofNat_one_eq_ite (v : Nat) : BitVec.ofNat 1 v = if v % 2 = 1 then 1 else 0 := by
  apply BitVec.eq_of_toNat_eq
  rw [BitVec.toNat_ofNat]
  rcases Nat.mod_two_eq_zero_or_one v with h | h <;> simp [h]

/-- The part of a value that a length register keeps, by whether LENW is bounded. -/
theorem trunc_eq {c : Config.Capacity} {v kept : Nat} (hunbounded : c.lenw = none → kept = v)
    (hbounded : ∀ n, c.lenw = some n → kept = v % 2 ^ n) : c.trunc v = kept := by
  cases h : c.lenw with
  | none => rw [Config.Capacity.trunc, h, hunbounded h]
  | some n => rw [Config.Capacity.trunc, h, hbounded n h]

/-- Clearing ERR leaves DONE alone. -/
theorem withoutErr_eq_ite (s : State) : withoutErr s.status = if s.done = true then 1 else 0 := by
  have h : ∀ x : BitVec 2, withoutErr x = if x.getLsbD 0 = true then 1 else 0 := by decide
  exact h s.status

-- ## The bytes of a memory (20_memory.md R45, 45_host_commands.md R126)

theorem readBytes_eq_map (m : MemSel) (s : State) (a n : Nat) :
    readBytes m s a n = (List.range n).map fun j => memByte m s (a + j) := by
  induction n generalizing a with
  | zero => rfl
  | succ n ih =>
    rw [readBytes, ih, List.range_succ_eq_map, List.map_cons, List.map_map]
    simp [Function.comp_def, Nat.add_assoc, Nat.add_comm 1]

theorem bytesExist_of_within {m : MemSel} {a n : Nat} {s : State}
    (h : Config.within (a + n) (memSize m s) = true) : bytesExist m a n s = true := by
  rw [bytesExist, h, Bool.or_true]

theorem bytesExist_of_not_within {m : MemSel} {a n : Nat} {s : State} (hn : 0 < n)
    (h : Config.within (a + n) (memSize m s) = false) : bytesExist m a n s = false := by
  rw [bytesExist, h, beq_false_of_ne hn.ne', Bool.or_false]

-- ## Each action between operations

section
variable {s : State}

theorem exec_rd {reg v : Nat} (hidle : s.busy = none) (hread : readReg reg s = some v) :
    exec (.rd reg) s = .next (giveBack (.number v) s) := by
  show execRd reg s = _
  rw [execRd, whenIdle_of_idle hidle, hread]

theorem exec_rd_refused {reg : Nat} (hidle : s.busy = none) (hread : readReg reg s = none) :
    exec (.rd reg) s = .refused .noSuchRegister := by
  show execRd reg s = _
  rw [execRd, whenIdle_of_idle hidle, hread]

theorem exec_wr {reg v : Nat} {t : State} (hidle : s.busy = none) (hwrite : writeReg reg v s = some t) :
    exec (.wr reg v) s = .next t := by
  show execWr reg v s = _
  rw [execWr, whenIdle_of_idle hidle, hwrite]

theorem exec_wr_refused {reg v : Nat} (hidle : s.busy = none) (hwrite : writeReg reg v s = none) :
    exec (.wr reg v) s = .refused .noSuchRegister := by
  show execWr reg v s = _
  rw [execWr, whenIdle_of_idle hidle, hwrite]

theorem exec_wrbuf {m : MemSel} {a : Nat} {bytes : List Byte} (hidle : s.busy = none)
    (hexist : bytesExist m a bytes.length s = true) :
    exec (.wrbuf m a bytes) s = .next (writeBytes m a bytes s) := by
  show execWrbuf m a bytes s = _
  rw [execWrbuf, whenIdle_of_idle hidle, if_pos hexist]

theorem exec_wrbuf_fault {m : MemSel} {a : Nat} {bytes : List Byte} (hidle : s.busy = none)
    (hexist : bytesExist m a bytes.length s = false) : exec (.wrbuf m a bytes) s = .fault .noSuchAddress := by
  show execWrbuf m a bytes s = _
  rw [execWrbuf, whenIdle_of_idle hidle, if_neg (Bool.eq_false_iff.1 hexist)]

theorem exec_rdbuf {m : MemSel} {a n : Nat} (hidle : s.busy = none) (hexist : bytesExist m a n s = true) :
    exec (.rdbuf m a n) s = .next (giveBack (.bytes (readBytes m s a n)) s) := by
  show execRdbuf m a n s = _
  rw [execRdbuf, whenIdle_of_idle hidle, if_pos hexist]

theorem exec_rdbuf_fault {m : MemSel} {a n : Nat} (hidle : s.busy = none) (hexist : bytesExist m a n s = false) :
    exec (.rdbuf m a n) s = .fault .noSuchAddress := by
  show execRdbuf m a n s = _
  rw [execRdbuf, whenIdle_of_idle hidle, if_neg (Bool.eq_false_iff.1 hexist)]

theorem exec_encodeRow (hidle : s.busy = none) : exec .encodeRow s = .next (startEncode s) :=
  whenIdle_of_idle hidle _

theorem exec_decodeRow (hidle : s.busy = none) : exec .decodeRow s = .next (startDecode s) :=
  whenIdle_of_idle hidle _

/-- A write to CMD does what the command does that bit 0 selects (45_host_commands.md R123). -/
theorem exec_wr_cmd (hidle : s.busy = none) (v : Nat) : exec (.wr 0 v) s = exec (decodeCmd v) s := by
  rw [exec_wr hidle (t := writeCmd v s) rfl, writeCmd, decodeCmd]
  split
  · exact (exec_encodeRow hidle).symm
  · exact (exec_decodeRow hidle).symm

/-- An operation that finds its length above the capacity ends before it has opened a unit: only the results, the
accumulator and the memory of the output are written (60_exceptions.md R131, R132). -/
theorem raiseException_capacityFault_clearErr (hidle : s.busy = none) (op : Operation) :
    raiseException .capacityFault op 0 (clearErr s) =
      { s with
        status := 3, errCode := 3, errPos := 0, outLen := 0, curVal := 0, curLen := 0
        pix := if op = .decodeRow then s.pix.forget else s.pix } := by
  obtain ⟨hout, hpix⟩ := raiseException_other (x := .capacityFault) nofun op 0 (clearErr s)
  rw [raiseException_eq, withErr_withDone, hout, hpix, ← hidle]
  rfl

end

-- ## Which fields an action can write (45_host_commands.md R127)

theorem decodeCmd_eq_or (v : Nat) : decodeCmd v = .encodeRow ∨ decodeCmd v = .decodeRow := by
  rw [decodeCmd]
  split
  · exact .inl rfl
  · exact .inr rfl

/-- Every action but a command and RESET writes at most the registers of the host, the memories and the returned
value. -/
theorem exec_hostAction_eq {s t : State} {a : HostAction} (hidle : s.busy = none) (hencode : a.instr ≠ .encodeRow)
    (hdecode : a.instr ≠ .decodeRow) (hreset : a.instr ≠ .reset) (h : exec a.instr s = .next t) :
    t = { s with
      ctrl := t.ctrl, inLen := t.inLen, expWidth := t.expWidth, pix := t.pix, code := t.code, ret := t.ret } := by
  cases a with
  | rd reg =>
    rw [HostAction.instr_rd] at h
    cases hread : readReg reg s with
    | none => rw [exec_rd_refused hidle hread] at h; cases h
    | some v => rw [exec_rd hidle hread] at h; cases h; rfl
  | wr reg v =>
    cases reg with
    | zero => exact absurd (decodeCmd_eq_or v) (not_or.2 ⟨hencode, hdecode⟩)
    | succ reg =>
      rw [HostAction.instr_wr_succ] at h
      cases hwrite : writeReg (reg + 1) v s with
      | none => rw [exec_wr_refused hidle hwrite] at h; cases h
      | some u =>
        rw [exec_wr hidle hwrite] at h
        cases h
        obtain ⟨_, _, _, rfl⟩ := writeReg_succ_eq_some hwrite
        rfl
  | wrbuf m a bytes =>
    rw [HostAction.instr_wrbuf] at h
    cases hexist : bytesExist m a bytes.length s with
    | false => rw [exec_wrbuf_fault hidle hexist] at h; cases h
    | true =>
      rw [exec_wrbuf hidle hexist] at h
      cases h
      rw [writeBytes_eq]
  | rdbuf m a n =>
    rw [HostAction.instr_rdbuf] at h
    cases hexist : bytesExist m a n s with
    | false => rw [exec_rdbuf_fault hidle hexist] at h; cases h
    | true => rw [exec_rdbuf hidle hexist] at h; cases h; rfl
  | reset => exact absurd rfl hreset

theorem startEncode_pending (s : State) : (startEncode s).pending = s.pending := by
  by_cases hfits : Config.within s.inLen s.cap.maxRowBits = true
  · rw [startEncode_of_fits hfits]
  · rw [startEncode_of_not_fits hfits, raiseException_pending, clearErr_pending]

theorem startDecode_pending (s : State) : (startDecode s).pending = s.pending := by
  by_cases hfits : Config.within s.inLen s.cap.maxCodeBytes = true
  · rw [startDecode_of_fits hfits]
  · rw [startDecode_of_not_fits hfits, raiseException_pending, clearErr_pending]

theorem HostEffect.pending_eq {s t : State} {a : HostAction} (h : HostEffect s a t) : t.pending = s.pending := by
  cases h with
  | returns => rfl
  | sets => rfl
  | writes => rw [writeBytes_eq]
  | encodes => exact startEncode_pending s
  | decodes => exact startDecode_pending s
  | resets => rfl

end Sys2Proof.Machine
end

section
/-! PROOFS. The statements of 45_host_commands.md. -/

namespace Sys2Proof.Machine

/-- Settles O37: WRBUF and RDBUF go through the range byte by byte, and are asked first whether it exists. -/
theorem bufferAccessMovesBytes : Obligations.BufferAccessMovesBytes := by
  refine ⟨fun m a bytes s hidle hin => ?_, fun m a n s hidle hin => ?_, fun m a bytes n s hidle => ⟨?_, ?_⟩⟩
  · exact ⟨_, exec_wrbuf hidle (bytesExist_of_within hin), writeBytes_eq m a bytes s,
      fun m' x => memByte_writeBytes m' m a bytes s x⟩
  · rw [exec_rdbuf hidle (bytesExist_of_within hin), readBytes_eq_map]
    rfl
  · intro hsome hout
    exact exec_wrbuf_fault hidle (bytesExist_of_not_within (List.length_pos_of_ne_nil hsome) hout)
  · intro hpos hout
    exact exec_rdbuf_fault hidle (bytesExist_of_not_within hpos hout)

/-- Settles O53: the actions by their constructors, where a write to CMD is a command, and the step as the first of
them, the rest of the list left to come. -/
theorem hostActionsAreTheFiveKinds : Obligations.HostActionsAreTheFiveKinds := by
  refine ⟨fun a => ?_, fun s t a rest hidle hnext hstep => ?_⟩
  · cases a with
    | rd reg => exact .inl ⟨reg, rfl⟩
    | wr reg v =>
      cases reg with
      | zero =>
        rcases decodeCmd_eq_or v with h | h
        · exact .inr (.inr (.inl h))
        · exact .inr (.inr (.inr (.inl h)))
      | succ reg => exact .inr (.inl ⟨reg + 1, v, reg.succ_pos, rfl⟩)
    | wrbuf m a bytes => exact .inr (.inr (.inr (.inr (.inl ⟨m, a, bytes, rfl⟩))))
    | rdbuf m a n => exact .inr (.inr (.inr (.inr (.inr (.inl ⟨m, a, n, rfl⟩)))))
    | reset => exact .inr (.inr (.inr (.inr (.inr (.inr rfl)))))
  · generalize hu : { s with pending := rest } = u
    have hidle' : u.busy = none := by rw [← hu, hidle]
    have hexec : exec a.instr u = .next t := by rw [← hu, ← step_of_next_action hidle hnext, hstep]
    have hpending := (exec_hostAction_effect hidle' hexec).pending_eq
    have hframe := fun hencode hdecode hreset => exec_hostAction_eq hidle' hencode hdecode hreset hexec
    subst hu
    exact ⟨hpending, step_cap hstep, hframe⟩

/-- Settles O33: the start opens the reader, the writer and the scanner, or raises before it opens any of them. -/
theorem encodeRowStartsOrRaisesCapacityFault : Obligations.EncodeRowStartsOrRaisesCapacityFault := by
  refine ⟨fun s hidle hfits => ?_, fun s hidle hfits => ⟨_, exec_encodeRow hidle, ?_⟩⟩
  · rw [exec_encodeRow hidle, startEncode_of_fits hfits, withoutErr_eq_ite]
  · rw [startEncode_of_not_fits (Bool.eq_false_iff.1 hfits), raiseException_capacityFault_clearErr hidle]
    rfl

/-- Settles O34: the start opens the reader, the writer and the decoder, or raises before it opens any of them. -/
theorem decodeRowStartsOrRaisesCapacityFault : Obligations.DecodeRowStartsOrRaisesCapacityFault := by
  refine ⟨fun s hidle hfits => ?_, fun s hidle hfits => ⟨_, exec_decodeRow hidle, ?_⟩⟩
  · rw [exec_decodeRow hidle, startDecode_of_fits hfits, withoutErr_eq_ite]
  · rw [startDecode_of_not_fits (Bool.eq_false_iff.1 hfits), raiseException_capacityFault_clearErr hidle]
    exact ⟨rfl, fun a => rfl⟩

/-- Settles O35: the eight registers by number. -/
theorem registerReadsReturnTheRegisters : Obligations.RegisterReadsReturnTheRegisters := by
  intro s hidle
  exact ⟨exec_rd hidle rfl, exec_rd hidle rfl, exec_rd hidle rfl, exec_rd hidle rfl, exec_rd hidle rfl,
    exec_rd hidle rfl, exec_rd hidle rfl, exec_rd hidle rfl,
    fun reg hreg => exec_rd_refused hidle (readReg_of_no_register hreg s)⟩

/-- Settles O36: a write to CMD is the command of bit 0, and the writable registers keep the bits they have. -/
theorem registerWritesKeepTheWidth : Obligations.RegisterWritesKeepTheWidth := by
  intro v s hidle
  refine ⟨fun heven => ?_, fun hodd => ?_, exec_wr hidle rfl, ?_, fun kept hunbounded hbounded => ?_,
    exec_wr hidle rfl, exec_wr hidle rfl, exec_wr hidle rfl,
    fun reg hreg => exec_wr_refused hidle (writeReg_of_no_register hreg v s)⟩
  · rw [exec_wr_cmd hidle, decodeCmd, if_pos heven]
  · rw [exec_wr_cmd hidle, decodeCmd, if_neg (by omega)]
  · rw [exec_wr (reg := 2) hidle rfl, ofNat_one_eq_ite]
  · rw [← trunc_eq hunbounded hbounded]
    exact ⟨exec_wr hidle rfl, exec_wr hidle rfl⟩

end Sys2Proof.Machine
end

section
/-! SUPPORT. CapacityFault of a run that does not fit in PIX, where NW.WRITE_RUN or a code of the stream raises it
(41_bit_accessors.md R85, 60_exceptions.md R131). -/

namespace Sys2Proof.Machine

section
variable {n : Nat} {s : State}

/-- NW.WRITE_RUN of a run that does not fit is exception entry at `tr_pos`. -/
theorem exec_nwWriteRun_of_not_fits (h : Config.within (s.nwPos + n) s.cap.maxRowBits = false) (c : Color) :
    exec (.nwWriteRun c n) s = .next (raiseException .capacityFault .decodeRow s.trPos s) := by
  have hfits : nwFits n s = false := h
  show Host.Outcome.next (nwWriteRun c n s).state = _
  rw [nwWriteRun, if_neg (Bool.eq_false_iff.1 hfits), decRaise, DecRun.state_ends]

/-- Of the two cases of a run and its transition, the one without room: the decoder state is not entered. -/
theorem emitRun_of_not_fits (h : Config.within (s.nwPos + n) s.cap.maxRowBits = false) (c : Color) (st : DecState) :
    emitRun c n st s = .ends (raiseException .capacityFault .decodeRow s.trPos s) := by
  have hfits : nwFits n s = false := h
  rcases emitRun_cases c n st s with ⟨hroom, -⟩ | ⟨-, heq⟩
  · rw [hroom] at hfits
    cases hfits
  · exact heq

/-- A code of a run that is tried and whose run does not fit raises behind the bits of the code. -/
theorem exec_code_of_not_fits {i : Instr} {r : CodeRef} {c : Color} {st : DecState} (hi : codeRefOf i = some r)
    (hcode : ∀ p, r ≠ .reserved p) (hrun : transition r = emitRun c n st) (hempty : atBoundary s = true)
    (hlegal : r.legalIn s.decState = true) (hroom : s.trPos + r.code.len ≤ s.trLim)
    (hfull : Config.within (s.nwPos + n) s.cap.maxRowBits = false) :
    exec i s = .next (raiseException .capacityFault .decodeRow (s.trPos + r.code.len) (trAdvance r.code.len s)) := by
  rw [exec_eq_takeString hi, takeString_eq_transition hcode hempty hlegal hroom, hrun,
    emitRun_of_not_fits (s := trAdvance r.code.len s) hfull, DecRun.state_ends, trAdvance_trPos]

end

/-- What CapacityFault in DECODE_ROW leaves (60_exceptions.md R132). The accumulator is whatever it is left as
(10_state.md R20). -/
theorem raiseException_capacityFault_decodeRow_eq (p : Nat) (s : State) {t : State}
    (ht : raiseException .capacityFault .decodeRow p s = t) :
    t = { s with
      curVal := t.curVal, curLen := t.curLen, status := 3, errCode := 3, errPos := p, outLen := 0, busy := none,
      pix := t.pix } := by
  obtain ⟨hout, -⟩ := raiseException_other (x := .capacityFault) nofun .decodeRow p s
  subst ht
  rw [raiseException_eq, withErr_withDone, hout]
  rfl

/-- Every byte of PIX is unspecified after CapacityFault in DECODE_ROW: none is listed any more. -/
theorem pixByte_raiseException_capacityFault_decodeRow (p : Nat) (s : State) (a : Nat) :
    pixByte (raiseException .capacityFault .decodeRow p s) a = Config.freePixByte (s.pix.epoch + 1) a := rfl

end Sys2Proof.Machine
end

section
/-! PROOFS. The statement of 60_exceptions.md about runs that do not fit. -/

namespace Sys2Proof.Machine

/-- Settles O26: a run is checked against the room in PIX before its first pixel, and a code has consumed its bits by
then. -/
theorem runThatDoesNotFitRaisesCapacityFault : Obligations.RunThatDoesNotFitRaisesCapacityFault := by
  refine ⟨fun c n s hfull => ?_, fun i r c n s hi hr hlegal hval hlen hroom hfull => ?_⟩
  · exact ⟨_, exec_nwWriteRun_of_not_fits hfull c, raiseException_capacityFault_decodeRow_eq _ s rfl,
      pixByte_raiseException_capacityFault_decodeRow _ s⟩
  · have hempty : atBoundary s = true := (atBoundary_iff s).2 ⟨hlen, hval⟩
    have hexec : exec i s =
        .next (raiseException .capacityFault .decodeRow (s.trPos + r.code.len) (trAdvance r.code.len s)) := by
      rcases hr with rfl | rfl
      · exact exec_code_of_not_fits (st := .expect c.other) hi nofun rfl hempty hlegal hroom hfull
      · exact exec_code_of_not_fits (st := .makeupSeen c) hi nofun rfl hempty hlegal hroom hfull
    exact ⟨_, hexec, raiseException_capacityFault_decodeRow_eq _ (trAdvance r.code.len s) rfl,
      pixByte_raiseException_capacityFault_decodeRow _ (trAdvance r.code.len s)⟩

end Sys2Proof.Machine
end

section
/-! SUPPORT. DECODE_ROW comes to its end: every turn takes at least one bit or ends the operation, and the result
registers tell how it ended (44_decoder.md R117, 70_reset_and_hazards.md R143). -/

namespace Sys2Proof.Machine

/-- DECODE_ROW runs, its reader at position `p` or beyond it and not beyond the limit `lim`. -/
structure ReadsBetween (p lim : Nat) (t : State) : Prop where
  busy : t.busy = some .decodeRow
  trLim : t.trLim = lim
  reached : p ≤ t.trPos
  trPos_le : t.trPos ≤ lim

section
variable {p lim : Nat} {s t : State}

theorem ReadsBetween.trAdvance (h : ReadsBetween p lim s) (hin : s.trPos < s.trLim) :
    ReadsBetween p lim (trAdvance 1 s) :=
  { h with reached := Nat.le_succ_of_le h.reached, trPos_le := h.trLim ▸ hin }

theorem readsBetween_nwPut (h : ReadsBetween p lim s) (c : Color) (n : Nat) : ReadsBetween p lim (nwPut c n s) := by
  rw [nwPut_eq]
  exact { h with }

theorem raiseException_busy (x : Exc) (op : Operation) (p : Nat) (s : State) :
    (raiseException x op p s).busy = none := by
  rw [raiseException_eq]

/-- DEC.BIT leaves the reader where it is, or an exception ends the operation. -/
theorem BitEffect.meets_readsBetween {b : Bool} {r : DecRun} (heffect : BitEffect b s r) (h : ReadsBetween p lim s) :
    r.Meets (ReadsBetween p lim) (·.busy = none) := by
  cases heffect with
  | accumulates => exact { h with }
  | resynchronises => exact { h with }
  | emits c n st => exact { readsBetween_nwPut h c n with }
  | raises x => exact raiseException_busy x _ _ s

/-- What every DEC.BIT keeps, the turns of the loop behind the first keep. -/
theorem goOn_meets {G E : State → Prop}
    (hbit : ∀ u, u.trPos < u.trLim → G u → (decBit (codeBit u u.trPos) (trAdvance 1 u)).Meets G E)
    (k : Nat) {r : DecRun} (h : r.Meets G E) : (goOn k r).Meets G E := by
  cases r with
  | ends t => exact h
  | goes t =>
    by_cases hlen : t.curLen = 0
    · rw [goOn_goes_of_curLen_eq_zero hlen]
      exact h
    · rw [goOn_goes_of_curLen_ne_zero hlen]
      exact readOn_meets hbit k h

/-- The loop, with input left, moves the reader by a bit at least, or an exception ends the operation. -/
theorem readOn_succ_meets_readsBetween (hbusy : s.busy = some .decodeRow) (hin : s.trPos < s.trLim) (k : Nat) :
    (readOn (k + 1) s).Meets (ReadsBetween (s.trPos + 1) s.trLim) (·.busy = none) := by
  have hfirst : ReadsBetween (s.trPos + 1) s.trLim (trAdvance 1 s) := ⟨hbusy, rfl, Nat.le_refl _, hin⟩
  rw [readOn_succ hin]
  exact goOn_meets (fun _ hu h => (decBit_effect _ _).meets_readsBetween (h.trAdvance hu)) k
    ((decBit_effect _ _).meets_readsBetween hfirst)

/-- A step of DECODE_ROW with input left ends the operation, or takes a bit at least. -/
theorem step_of_input_left (hbusy : s.busy = some .decodeRow) (hin : s.trPos < s.trLim) :
    ∃ t, step s = .next t ∧ (t.busy = none ∨ ReadsBetween (s.trPos + 1) s.trLim t) := by
  refine ⟨_, stringStepEqualsBitSteps s hbusy hin, ?_⟩
  have hmeets := readOn_succ_meets_readsBetween hbusy hin 13
  cases hrun : readOn 14 s with
  | goes t =>
    rw [hrun] at hmeets
    exact .inr hmeets
  | ends t =>
    rw [hrun] at hmeets
    exact .inl hmeets

/-- The step that ends an operation sets DONE, and ERR with the exception in ERR_CODE or neither (45_host_commands.md
R123, 60_exceptions.md R132). -/
theorem results_of_ending_step (hbusy : s.busy ≠ none) (hstep : step s = .next t) (hend : t.busy = none) :
    t.done = true ∧ (t.err = true ↔ t.errCode ≠ 0) := by
  unfold State.done State.err
  cases step_statusEffect hstep with
  | keeps _ _ hsame => exact absurd (hsame.symm.trans hend) hbusy
  | starts _ hruns => exact absurd hend hruns
  | ends hstatus hcode => simp [hstatus, hcode]
  | raises hstatus hcode => simpa [hstatus] using hcode
  | resets hidle => exact absurd hidle hbusy

/-- In at most `n` steps the operation that runs ends, with its results in STATUS and ERR_CODE and the host's list as it
was. -/
def EndsWithin (n : Nat) (s : State) : Prop :=
  ∃ (k : Nat) (t : State), k ≤ n ∧ Host.Core.run core k s = .next t ∧ t.busy = none ∧ t.done = true ∧
    (t.err = true ↔ t.errCode ≠ 0) ∧ t.pending = s.pending

theorem endsWithin_of_ending_step (hbusy : s.busy ≠ none) (hstep : step s = .next t) (hend : t.busy = none) (n : Nat) :
    EndsWithin (n + 1) s := by
  obtain ⟨hdone, herr⟩ := results_of_ending_step hbusy hstep hend
  exact ⟨1, t, Nat.le_add_left 1 n, run_succ_of_step (M := core) hstep 0, hend, hdone, herr,
    step_pending_of_busy hbusy hstep⟩

theorem EndsWithin.of_step {n : Nat} (h : EndsWithin n t) (hbusy : s.busy ≠ none) (hstep : step s = .next t) :
    EndsWithin (n + 1) s := by
  obtain ⟨k, u, hk, hrun, hidle, hdone, herr, hpending⟩ := h
  exact ⟨k + 1, u, Nat.succ_le_succ hk, (run_succ_of_step (M := core) hstep k).trans hrun, hidle, hdone, herr,
    hpending.trans (step_pending_of_busy hbusy hstep)⟩

theorem endsWithin_of_input_ended (hbusy : s.busy = some .decodeRow) (hend : s.trPos = s.trLim) (n : Nat) :
    EndsWithin (n + 1) s := by
  obtain ⟨hidle, -⟩ := finishDecode_results s
  exact endsWithin_of_ending_step (by rw [hbusy]; nofun) (step_of_input_ended hbusy hend) hidle n

/-- By induction on the bits left: one step for each of them at most, and one for the end of the input. -/
theorem endsWithin_of_decoding {n : Nat} (hbusy : s.busy = some .decodeRow) (hle : s.trPos ≤ s.trLim)
    (hleft : s.trLim ≤ s.trPos + n) : EndsWithin (n + 1) s := by
  induction n generalizing s with
  | zero => exact endsWithin_of_input_ended hbusy (Nat.le_antisymm hle hleft) 0
  | succ n ih =>
    rcases Nat.eq_or_lt_of_le hle with hend | hin
    · exact endsWithin_of_input_ended hbusy hend (n + 1)
    · have hruns : s.busy ≠ none := by rw [hbusy]; nofun
      obtain ⟨t, hstep, hidle | ⟨hbusy', hlim, hreached, hle'⟩⟩ := step_of_input_left hbusy hin
      · exact endsWithin_of_ending_step hruns hstep hidle (n + 1)
      · exact (ih hbusy' (hlim ▸ hle') (by omega)).of_step hruns hstep

end

end Sys2Proof.Machine
end

section
/-! SUPPORT. The reset event and the state after reset: what the registers, the memories and the invariants are
(70_reset_and_hazards.md R140, R141). -/

namespace Sys2Proof.Machine

theorem exec_reset (s : State) : exec .reset s = .next (resetEvent s) := rfl

/-- No byte of a memory that has become unspecified is listed. -/
theorem pixByte_of_unspecified {s : State} {e : Nat} (h : s.pix = .unspecified e) (a : Nat) :
    pixByte s a = Config.freePixByte e a := by
  rw [pixByte, h]
  rfl

theorem codeByte_of_unspecified {s : State} {e : Nat} (h : s.code = .unspecified e) (a : Nat) :
    codeByte s a = Config.freeCodeByte e a := by
  rw [codeByte, h]
  rfl

/-- Every interface register reads 0 after reset (10_state.md R22). -/
theorem readReg_resetWith (cap : Config.Capacity) {reg : Nat} (h : reg < 8) :
    readReg reg (State.resetWith cap) = some 0 := by
  interval_cases reg <;> rfl

/-- The state after reset differs from what the reset event leaves in the free values of the memories only. -/
theorem inv_resetWith (cap : Config.Capacity) : Inv (State.resetWith cap) :=
  { inv_resetEvent (State.resetWith cap) with }

theorem resultsAgree_resetWith (cap : Config.Capacity) : ResultsAgree (State.resetWith cap) := by
  have hstatus : (State.resetWith cap).status = 0 := rfl
  have hcode : (State.resetWith cap).errCode = 0 := rfl
  simp [ResultsAgree, State.err, hstatus, hcode]

theorem encodeRoom_of_idle {s : State} (hidle : s.busy = none) : EncodeRoom s := fun hencode => by
  rw [hidle] at hencode
  cases hencode

end Sys2Proof.Machine
end

section
/-! PROOFS. The statements of 70_reset_and_hazards.md. -/

namespace Sys2Proof.Machine

/-- Settles O50: every step before the end of the input takes a bit at least, and the step behind the last bit ends. -/
theorem decodeRowEnds : Obligations.DecodeRowEnds :=
  fun _ hbusy hle => endsWithin_of_decoding hbusy hle (by omega)

/-- Settles O39: the reset event is the state after reset but for its two memories, which become unspecified anew. -/
theorem resetSetsEveryRegister : Obligations.ResetSetsEveryRegister := fun s =>
  ⟨resetEvent s, exec_reset s, rfl, rfl, rfl, rfl, rfl, rfl, rfl, rfl, rfl, rfl, rfl, rfl, rfl, rfl, rfl, rfl, rfl, rfl,
    pixByte_of_unspecified rfl, codeByte_of_unspecified rfl, rfl, rfl, rfl⟩

/-- Settles O40: the block after reset is idle, so it answers RD, and waits for the host. -/
theorem resetStateIsTheSpecifiedOne : Obligations.ResetStateIsTheSpecifiedOne :=
  ⟨rfl, rfl, rfl, rfl, rfl, rfl, rfl, rfl, rfl, rfl, rfl,
    fun _ hreg => exec_rd rfl (readReg_resetWith Config.resetCapacity hreg),
    pixByte_of_unspecified rfl, codeByte_of_unspecified rfl, step_of_waiting rfl rfl⟩

/-- Settles O43: no operation runs after reset, and every position and every register is 0. -/
theorem resetSatisfiesTheInvariants : Obligations.ResetSatisfiesTheInvariants :=
  fun cap => ⟨inv_resetWith cap, resultsAgree_resetWith cap, encodeRoom_of_idle rfl⟩

end Sys2Proof.Machine
end
